-- ==== Sys2Proof/Word.lean ====
section
/-! DEFINITION. The widths of 00_scope.md R6: bytes, 16-bit words, 20-bit physical addresses, 64-bit request words. -/

namespace Sys2Proof

/-- The addressable unit and the width of a register half (00_scope.md R6). -/
abbrev Byte := BitVec 8

/-- The width of a register, a segment value and an offset (00_scope.md R6). -/
abbrev Word := BitVec 16

/-- A physical ("linear") address, 20 bits (00_scope.md R6, 20_memory.md R40). -/
abbrev Addr := BitVec 20

/-- A request word (30_encoding.md R65). -/
abbrev ReqWord := BitVec 64

end Sys2Proof
end

