-- ==== Sys2Proof/Syntax.lean ====
section
/-! DEFINITION. The abstract syntax of requests (30_encoding.md Part 1) and the instructions, one per row of the opcode
table. -/

namespace Sys2Proof

/-- The eight 8-bit register identities (30_encoding.md R64). -/
inductive Reg8 where
  | ah | al | bh | bl | ch | cl | dh | dl
  deriving DecidableEq, Repr

/-- The twelve 16-bit register identities (30_encoding.md R64). -/
inductive Reg16 where
  | ax | bx | cx | dx | sp | bp | si | di | cs | ds | es | ss
  deriving DecidableEq, Repr

/-- The identity a `Register16` operand carries: one of the twelve, or `bad(n)`, an unrecognised one (30_encoding.md R71). -/
inductive Reg16Id where
  | reg (r : Reg16)
  | bad (n : BitVec 4)
  deriving DecidableEq, Repr

/-- `SegmentOverride` (30_encoding.md R63); `none` means the mode's default segment. -/
inductive SegOverride where
  | none | es | cs | ss | ds
  deriving DecidableEq, Repr

/-- The eight bases of the addressing modes (30_encoding.md R62, R72). -/
inductive EaBase where
  | bxSi | bxDi | bpSi | bpDi | si | di | bp | bx
  deriving DecidableEq, Repr

/-- `AddressingMode` (30_encoding.md R62): a base with no, an 8-bit signed or a 16-bit displacement (24 forms), the direct
form `Disp16`, and `RegisterMode`. -/
inductive AddrMode where
  | plain (b : EaBase)
  | disp8 (b : EaBase) (d : Byte)
  | disp16 (b : EaBase) (d : Word)
  | direct (d : Word)
  | registerMode
  deriving DecidableEq, Repr

/-- `OperandType` (30_encoding.md R61), thirteen variants. A relative displacement is held as its two's complement bits. -/
inductive Operand where
  | immediate8 (v : Byte)
  | immediate16 (v : Word)
  | relative8 (r : Byte)
  | relative16 (r : Word)
  | offset8 (o : Word)
  | offset16 (o : Word)
  | register8 (id : Reg8)
  | register16 (id : Reg16Id)
  | addressingMode (m : AddrMode)
  | nearAddress (a : Word)
  | farAddress (seg : Word) (off : Word)
  | noOperand
  | invalidOperand
  deriving DecidableEq, Repr

/-- A request `(op, operand, ovr, value)` (30_encoding.md R60). -/
inductive Request where
  | read8 (o : Operand) (ovr : SegOverride)
  | read16 (o : Operand) (ovr : SegOverride)
  | write8 (o : Operand) (ovr : SegOverride) (value : Byte)
  | write16 (o : Operand) (ovr : SegOverride) (value : Word)
  deriving DecidableEq, Repr

/-- The instructions: one constructor per row of `spec/opcode_table.json` (30_encoding.md R83), that is one per operation and
operand kind, and for memory operands one per operation and addressing mode. -/
inductive Instr where
  -- `read8`
  | read8Immediate8 (v : Byte) (ovr : SegOverride)
  | read8Immediate16 (v : Word) (ovr : SegOverride)
  | read8Relative8 (r : Byte) (ovr : SegOverride)
  | read8Relative16 (r : Word) (ovr : SegOverride)
  | read8Offset8 (o : Word) (ovr : SegOverride)
  | read8Offset16 (o : Word) (ovr : SegOverride)
  | read8Register8 (id : Reg8) (ovr : SegOverride)
  | read8Register16 (id : Reg16Id) (ovr : SegOverride)
  | read8BxSi (ovr : SegOverride)
  | read8BxDi (ovr : SegOverride)
  | read8BpSi (ovr : SegOverride)
  | read8BpDi (ovr : SegOverride)
  | read8Si (ovr : SegOverride)
  | read8Di (ovr : SegOverride)
  | read8Bp (ovr : SegOverride)
  | read8Bx (ovr : SegOverride)
  | read8BxSiDisp8 (d : Byte) (ovr : SegOverride)
  | read8BxDiDisp8 (d : Byte) (ovr : SegOverride)
  | read8BpSiDisp8 (d : Byte) (ovr : SegOverride)
  | read8BpDiDisp8 (d : Byte) (ovr : SegOverride)
  | read8SiDisp8 (d : Byte) (ovr : SegOverride)
  | read8DiDisp8 (d : Byte) (ovr : SegOverride)
  | read8BpDisp8 (d : Byte) (ovr : SegOverride)
  | read8BxDisp8 (d : Byte) (ovr : SegOverride)
  | read8BxSiDisp16 (d : Word) (ovr : SegOverride)
  | read8BxDiDisp16 (d : Word) (ovr : SegOverride)
  | read8BpSiDisp16 (d : Word) (ovr : SegOverride)
  | read8BpDiDisp16 (d : Word) (ovr : SegOverride)
  | read8SiDisp16 (d : Word) (ovr : SegOverride)
  | read8DiDisp16 (d : Word) (ovr : SegOverride)
  | read8BpDisp16 (d : Word) (ovr : SegOverride)
  | read8BxDisp16 (d : Word) (ovr : SegOverride)
  | read8Disp16 (d : Word) (ovr : SegOverride)
  | read8RegisterMode (ovr : SegOverride)
  | read8NearAddress (a : Word) (ovr : SegOverride)
  | read8FarAddress (seg : Word) (off : Word) (ovr : SegOverride)
  | read8NoOperand (ovr : SegOverride)
  | read8InvalidOperand (ovr : SegOverride)
  -- `read16`
  | read16Immediate8 (v : Byte) (ovr : SegOverride)
  | read16Immediate16 (v : Word) (ovr : SegOverride)
  | read16Relative8 (r : Byte) (ovr : SegOverride)
  | read16Relative16 (r : Word) (ovr : SegOverride)
  | read16Offset8 (o : Word) (ovr : SegOverride)
  | read16Offset16 (o : Word) (ovr : SegOverride)
  | read16Register8 (id : Reg8) (ovr : SegOverride)
  | read16Register16 (id : Reg16Id) (ovr : SegOverride)
  | read16BxSi (ovr : SegOverride)
  | read16BxDi (ovr : SegOverride)
  | read16BpSi (ovr : SegOverride)
  | read16BpDi (ovr : SegOverride)
  | read16Si (ovr : SegOverride)
  | read16Di (ovr : SegOverride)
  | read16Bp (ovr : SegOverride)
  | read16Bx (ovr : SegOverride)
  | read16BxSiDisp8 (d : Byte) (ovr : SegOverride)
  | read16BxDiDisp8 (d : Byte) (ovr : SegOverride)
  | read16BpSiDisp8 (d : Byte) (ovr : SegOverride)
  | read16BpDiDisp8 (d : Byte) (ovr : SegOverride)
  | read16SiDisp8 (d : Byte) (ovr : SegOverride)
  | read16DiDisp8 (d : Byte) (ovr : SegOverride)
  | read16BpDisp8 (d : Byte) (ovr : SegOverride)
  | read16BxDisp8 (d : Byte) (ovr : SegOverride)
  | read16BxSiDisp16 (d : Word) (ovr : SegOverride)
  | read16BxDiDisp16 (d : Word) (ovr : SegOverride)
  | read16BpSiDisp16 (d : Word) (ovr : SegOverride)
  | read16BpDiDisp16 (d : Word) (ovr : SegOverride)
  | read16SiDisp16 (d : Word) (ovr : SegOverride)
  | read16DiDisp16 (d : Word) (ovr : SegOverride)
  | read16BpDisp16 (d : Word) (ovr : SegOverride)
  | read16BxDisp16 (d : Word) (ovr : SegOverride)
  | read16Disp16 (d : Word) (ovr : SegOverride)
  | read16RegisterMode (ovr : SegOverride)
  | read16NearAddress (a : Word) (ovr : SegOverride)
  | read16FarAddress (seg : Word) (off : Word) (ovr : SegOverride)
  | read16NoOperand (ovr : SegOverride)
  | read16InvalidOperand (ovr : SegOverride)
  -- `write8`
  | write8Immediate8 (v : Byte) (ovr : SegOverride) (value : Byte)
  | write8Immediate16 (v : Word) (ovr : SegOverride) (value : Byte)
  | write8Relative8 (r : Byte) (ovr : SegOverride) (value : Byte)
  | write8Relative16 (r : Word) (ovr : SegOverride) (value : Byte)
  | write8Offset8 (o : Word) (ovr : SegOverride) (value : Byte)
  | write8Offset16 (o : Word) (ovr : SegOverride) (value : Byte)
  | write8Register8 (id : Reg8) (ovr : SegOverride) (value : Byte)
  | write8Register16 (id : Reg16Id) (ovr : SegOverride) (value : Byte)
  | write8BxSi (ovr : SegOverride) (value : Byte)
  | write8BxDi (ovr : SegOverride) (value : Byte)
  | write8BpSi (ovr : SegOverride) (value : Byte)
  | write8BpDi (ovr : SegOverride) (value : Byte)
  | write8Si (ovr : SegOverride) (value : Byte)
  | write8Di (ovr : SegOverride) (value : Byte)
  | write8Bp (ovr : SegOverride) (value : Byte)
  | write8Bx (ovr : SegOverride) (value : Byte)
  | write8BxSiDisp8 (d : Byte) (ovr : SegOverride) (value : Byte)
  | write8BxDiDisp8 (d : Byte) (ovr : SegOverride) (value : Byte)
  | write8BpSiDisp8 (d : Byte) (ovr : SegOverride) (value : Byte)
  | write8BpDiDisp8 (d : Byte) (ovr : SegOverride) (value : Byte)
  | write8SiDisp8 (d : Byte) (ovr : SegOverride) (value : Byte)
  | write8DiDisp8 (d : Byte) (ovr : SegOverride) (value : Byte)
  | write8BpDisp8 (d : Byte) (ovr : SegOverride) (value : Byte)
  | write8BxDisp8 (d : Byte) (ovr : SegOverride) (value : Byte)
  | write8BxSiDisp16 (d : Word) (ovr : SegOverride) (value : Byte)
  | write8BxDiDisp16 (d : Word) (ovr : SegOverride) (value : Byte)
  | write8BpSiDisp16 (d : Word) (ovr : SegOverride) (value : Byte)
  | write8BpDiDisp16 (d : Word) (ovr : SegOverride) (value : Byte)
  | write8SiDisp16 (d : Word) (ovr : SegOverride) (value : Byte)
  | write8DiDisp16 (d : Word) (ovr : SegOverride) (value : Byte)
  | write8BpDisp16 (d : Word) (ovr : SegOverride) (value : Byte)
  | write8BxDisp16 (d : Word) (ovr : SegOverride) (value : Byte)
  | write8Disp16 (d : Word) (ovr : SegOverride) (value : Byte)
  | write8RegisterMode (ovr : SegOverride) (value : Byte)
  | write8NearAddress (a : Word) (ovr : SegOverride) (value : Byte)
  | write8FarAddress (seg : Word) (off : Word) (ovr : SegOverride) (value : Byte)
  | write8NoOperand (ovr : SegOverride) (value : Byte)
  | write8InvalidOperand (ovr : SegOverride) (value : Byte)
  -- `write16`
  | write16Immediate8 (v : Byte) (ovr : SegOverride) (value : Word)
  | write16Immediate16 (v : Word) (ovr : SegOverride) (value : Word)
  | write16Relative8 (r : Byte) (ovr : SegOverride) (value : Word)
  | write16Relative16 (r : Word) (ovr : SegOverride) (value : Word)
  | write16Offset8 (o : Word) (ovr : SegOverride) (value : Word)
  | write16Offset16 (o : Word) (ovr : SegOverride) (value : Word)
  | write16Register8 (id : Reg8) (ovr : SegOverride) (value : Word)
  | write16Register16 (id : Reg16Id) (ovr : SegOverride) (value : Word)
  | write16BxSi (ovr : SegOverride) (value : Word)
  | write16BxDi (ovr : SegOverride) (value : Word)
  | write16BpSi (ovr : SegOverride) (value : Word)
  | write16BpDi (ovr : SegOverride) (value : Word)
  | write16Si (ovr : SegOverride) (value : Word)
  | write16Di (ovr : SegOverride) (value : Word)
  | write16Bp (ovr : SegOverride) (value : Word)
  | write16Bx (ovr : SegOverride) (value : Word)
  | write16BxSiDisp8 (d : Byte) (ovr : SegOverride) (value : Word)
  | write16BxDiDisp8 (d : Byte) (ovr : SegOverride) (value : Word)
  | write16BpSiDisp8 (d : Byte) (ovr : SegOverride) (value : Word)
  | write16BpDiDisp8 (d : Byte) (ovr : SegOverride) (value : Word)
  | write16SiDisp8 (d : Byte) (ovr : SegOverride) (value : Word)
  | write16DiDisp8 (d : Byte) (ovr : SegOverride) (value : Word)
  | write16BpDisp8 (d : Byte) (ovr : SegOverride) (value : Word)
  | write16BxDisp8 (d : Byte) (ovr : SegOverride) (value : Word)
  | write16BxSiDisp16 (d : Word) (ovr : SegOverride) (value : Word)
  | write16BxDiDisp16 (d : Word) (ovr : SegOverride) (value : Word)
  | write16BpSiDisp16 (d : Word) (ovr : SegOverride) (value : Word)
  | write16BpDiDisp16 (d : Word) (ovr : SegOverride) (value : Word)
  | write16SiDisp16 (d : Word) (ovr : SegOverride) (value : Word)
  | write16DiDisp16 (d : Word) (ovr : SegOverride) (value : Word)
  | write16BpDisp16 (d : Word) (ovr : SegOverride) (value : Word)
  | write16BxDisp16 (d : Word) (ovr : SegOverride) (value : Word)
  | write16Disp16 (d : Word) (ovr : SegOverride) (value : Word)
  | write16RegisterMode (ovr : SegOverride) (value : Word)
  | write16NearAddress (a : Word) (ovr : SegOverride) (value : Word)
  | write16FarAddress (seg : Word) (off : Word) (ovr : SegOverride) (value : Word)
  | write16NoOperand (ovr : SegOverride) (value : Word)
  | write16InvalidOperand (ovr : SegOverride) (value : Word)
  deriving DecidableEq, Repr

end Sys2Proof
end

