-- ==== Sys2Proof/WellFormed.lean ====
section
/-! DEFINITION. Which terms stand for a request (30_encoding.md R75): the typing of the operands leaves one check, that an
unrecognised Register16 identity `bad(n)` has `n` in 12 to 15. -/

namespace Sys2Proof

/-- `bad(n)` names only the codes that no legal identity has (30_encoding.md R71, R75). -/
def Reg16Id.wf : Reg16Id → Bool
  | .reg _ => true
  | .bad n => decide (12 ≤ n.toNat)

/-- Only a `Register16` operand can be ill-formed. -/
def Operand.wf : Operand → Bool
  | .register16 id => id.wf
  | .immediate8 _ | .immediate16 _ | .relative8 _ | .relative16 _ | .offset8 _ | .offset16 _ | .register8 _
  | .addressingMode _ | .nearAddress _ | .farAddress _ _ | .noOperand | .invalidOperand => true

/-- A request is well-formed when its operand is. -/
def Request.wf : Request → Bool
  | .read8 o _ | .read16 o _ | .write8 o _ _ | .write16 o _ _ => o.wf

/-- An instruction is well-formed when it stands for a request of 30_encoding.md Part 1. -/
def Instr.wf : Instr → Bool
  | .read8Immediate8 _ _ => true
  | .read8Immediate16 _ _ => true
  | .read8Relative8 _ _ => true
  | .read8Relative16 _ _ => true
  | .read8Offset8 _ _ => true
  | .read8Offset16 _ _ => true
  | .read8Register8 _ _ => true
  | .read8Register16 id _ => id.wf
  | .read8BxSi _ => true
  | .read8BxDi _ => true
  | .read8BpSi _ => true
  | .read8BpDi _ => true
  | .read8Si _ => true
  | .read8Di _ => true
  | .read8Bp _ => true
  | .read8Bx _ => true
  | .read8BxSiDisp8 _ _ => true
  | .read8BxDiDisp8 _ _ => true
  | .read8BpSiDisp8 _ _ => true
  | .read8BpDiDisp8 _ _ => true
  | .read8SiDisp8 _ _ => true
  | .read8DiDisp8 _ _ => true
  | .read8BpDisp8 _ _ => true
  | .read8BxDisp8 _ _ => true
  | .read8BxSiDisp16 _ _ => true
  | .read8BxDiDisp16 _ _ => true
  | .read8BpSiDisp16 _ _ => true
  | .read8BpDiDisp16 _ _ => true
  | .read8SiDisp16 _ _ => true
  | .read8DiDisp16 _ _ => true
  | .read8BpDisp16 _ _ => true
  | .read8BxDisp16 _ _ => true
  | .read8Disp16 _ _ => true
  | .read8RegisterMode _ => true
  | .read8NearAddress _ _ => true
  | .read8FarAddress _ _ _ => true
  | .read8NoOperand _ => true
  | .read8InvalidOperand _ => true
  | .read16Immediate8 _ _ => true
  | .read16Immediate16 _ _ => true
  | .read16Relative8 _ _ => true
  | .read16Relative16 _ _ => true
  | .read16Offset8 _ _ => true
  | .read16Offset16 _ _ => true
  | .read16Register8 _ _ => true
  | .read16Register16 id _ => id.wf
  | .read16BxSi _ => true
  | .read16BxDi _ => true
  | .read16BpSi _ => true
  | .read16BpDi _ => true
  | .read16Si _ => true
  | .read16Di _ => true
  | .read16Bp _ => true
  | .read16Bx _ => true
  | .read16BxSiDisp8 _ _ => true
  | .read16BxDiDisp8 _ _ => true
  | .read16BpSiDisp8 _ _ => true
  | .read16BpDiDisp8 _ _ => true
  | .read16SiDisp8 _ _ => true
  | .read16DiDisp8 _ _ => true
  | .read16BpDisp8 _ _ => true
  | .read16BxDisp8 _ _ => true
  | .read16BxSiDisp16 _ _ => true
  | .read16BxDiDisp16 _ _ => true
  | .read16BpSiDisp16 _ _ => true
  | .read16BpDiDisp16 _ _ => true
  | .read16SiDisp16 _ _ => true
  | .read16DiDisp16 _ _ => true
  | .read16BpDisp16 _ _ => true
  | .read16BxDisp16 _ _ => true
  | .read16Disp16 _ _ => true
  | .read16RegisterMode _ => true
  | .read16NearAddress _ _ => true
  | .read16FarAddress _ _ _ => true
  | .read16NoOperand _ => true
  | .read16InvalidOperand _ => true
  | .write8Immediate8 _ _ _ => true
  | .write8Immediate16 _ _ _ => true
  | .write8Relative8 _ _ _ => true
  | .write8Relative16 _ _ _ => true
  | .write8Offset8 _ _ _ => true
  | .write8Offset16 _ _ _ => true
  | .write8Register8 _ _ _ => true
  | .write8Register16 id _ _ => id.wf
  | .write8BxSi _ _ => true
  | .write8BxDi _ _ => true
  | .write8BpSi _ _ => true
  | .write8BpDi _ _ => true
  | .write8Si _ _ => true
  | .write8Di _ _ => true
  | .write8Bp _ _ => true
  | .write8Bx _ _ => true
  | .write8BxSiDisp8 _ _ _ => true
  | .write8BxDiDisp8 _ _ _ => true
  | .write8BpSiDisp8 _ _ _ => true
  | .write8BpDiDisp8 _ _ _ => true
  | .write8SiDisp8 _ _ _ => true
  | .write8DiDisp8 _ _ _ => true
  | .write8BpDisp8 _ _ _ => true
  | .write8BxDisp8 _ _ _ => true
  | .write8BxSiDisp16 _ _ _ => true
  | .write8BxDiDisp16 _ _ _ => true
  | .write8BpSiDisp16 _ _ _ => true
  | .write8BpDiDisp16 _ _ _ => true
  | .write8SiDisp16 _ _ _ => true
  | .write8DiDisp16 _ _ _ => true
  | .write8BpDisp16 _ _ _ => true
  | .write8BxDisp16 _ _ _ => true
  | .write8Disp16 _ _ _ => true
  | .write8RegisterMode _ _ => true
  | .write8NearAddress _ _ _ => true
  | .write8FarAddress _ _ _ _ => true
  | .write8NoOperand _ _ => true
  | .write8InvalidOperand _ _ => true
  | .write16Immediate8 _ _ _ => true
  | .write16Immediate16 _ _ _ => true
  | .write16Relative8 _ _ _ => true
  | .write16Relative16 _ _ _ => true
  | .write16Offset8 _ _ _ => true
  | .write16Offset16 _ _ _ => true
  | .write16Register8 _ _ _ => true
  | .write16Register16 id _ _ => id.wf
  | .write16BxSi _ _ => true
  | .write16BxDi _ _ => true
  | .write16BpSi _ _ => true
  | .write16BpDi _ _ => true
  | .write16Si _ _ => true
  | .write16Di _ _ => true
  | .write16Bp _ _ => true
  | .write16Bx _ _ => true
  | .write16BxSiDisp8 _ _ _ => true
  | .write16BxDiDisp8 _ _ _ => true
  | .write16BpSiDisp8 _ _ _ => true
  | .write16BpDiDisp8 _ _ _ => true
  | .write16SiDisp8 _ _ _ => true
  | .write16DiDisp8 _ _ _ => true
  | .write16BpDisp8 _ _ _ => true
  | .write16BxDisp8 _ _ _ => true
  | .write16BxSiDisp16 _ _ _ => true
  | .write16BxDiDisp16 _ _ _ => true
  | .write16BpSiDisp16 _ _ _ => true
  | .write16BpDiDisp16 _ _ _ => true
  | .write16SiDisp16 _ _ _ => true
  | .write16DiDisp16 _ _ _ => true
  | .write16BpDisp16 _ _ _ => true
  | .write16BxDisp16 _ _ _ => true
  | .write16Disp16 _ _ _ => true
  | .write16RegisterMode _ _ => true
  | .write16NearAddress _ _ _ => true
  | .write16FarAddress _ _ _ _ => true
  | .write16NoOperand _ _ => true
  | .write16InvalidOperand _ _ => true

end Sys2Proof
end

