-- ==== Sys2Proof/Decode.lean ====
section
/-! DEFINITION. The request word (30_encoding.md Part 2): decoding, total on any 64 bits and rejecting by name, then the
encoder, written from the same code tables. -/

namespace Sys2Proof

/-! ## The fields of a request word (R65) -/

/-- `req[63:62]` (30_encoding.md R65). -/
def opField (w : ReqWord) : BitVec 2 := w.extractLsb' 62 2

/-- `req[61:59]` (30_encoding.md R65). -/
def ovrField (w : ReqWord) : BitVec 3 := w.extractLsb' 59 3

/-- `req[58:55]` (30_encoding.md R65). -/
def kindField (w : ReqWord) : BitVec 4 := w.extractLsb' 55 4

/-- `req[54:48]` (30_encoding.md R65). -/
def mbzField (w : ReqWord) : BitVec 7 := w.extractLsb' 48 7

/-- `req[47:16]`, the payload `p` (30_encoding.md R65). -/
def payloadField (w : ReqWord) : BitVec 32 := w.extractLsb' 16 32

/-- `req[15:0]` (30_encoding.md R65). -/
def wdataField (w : ReqWord) : Word := w.extractLsb' 0 16

/-! ## Decoding -/

/-- Why a word is malformed: the six cases of 30_encoding.md R75, in its order. -/
inductive Malformed where
  /-- `ovr` is 5, 6 or 7. -/
  | overrideReserved
  /-- `kind` is 13, 14 or 15. -/
  | kindReserved
  /-- `req[54:48]` is not zero. -/
  | mbzNonzero
  /-- A payload bit that R69 or R73 requires to be zero is one. -/
  | payloadNonzero
  /-- `kind = 8` and the mode code is 26 to 31. -/
  | modeReserved
  /-- `wdata` violates R74. -/
  | wdataNonzero
  deriving DecidableEq, Repr

/-- The result of decoding (30_encoding.md R75): a request, or malformed with a reason. -/
inductive Decoded (α : Type) where
  | ok (i : α)
  | malformed (why : Malformed)
  deriving DecidableEq, Repr

/-- Decoding continues on a decoded part; a malformed part makes the whole malformed. -/
def Decoded.bind {α β : Type} (x : Decoded α) (f : α → Decoded β) : Decoded β :=
  match x with
  | .ok i => f i
  | .malformed why => .malformed why

/-- `x`, provided the bits that must be zero are. -/
def requireZero {α : Type} {n : Nat} (bits : BitVec n) (why : Malformed) (x : α) : Decoded α :=
  if bits = 0 then .ok x else .malformed why

/-- Override codes (30_encoding.md R67). -/
def SegOverride.ofCode (c : BitVec 3) : Option SegOverride :=
  match c.toNat with
  | 0 => some .none
  | 1 => some .es
  | 2 => some .cs
  | 3 => some .ss
  | 4 => some .ds
  | _ => Option.none

/-- Register8 codes (30_encoding.md R70); all eight are legal. -/
def Reg8.ofCode (c : BitVec 3) : Reg8 :=
  match c.toNat with
  | 0 => .ah
  | 1 => .al
  | 2 => .bh
  | 3 => .bl
  | 4 => .ch
  | 5 => .cl
  | 6 => .dh
  | _ => .dl

/-- Register16 codes (30_encoding.md R71); 12 to 15 are unrecognised identities. -/
def Reg16Id.ofCode (c : BitVec 4) : Reg16Id :=
  match c.toNat with
  | 0 => .reg .ax
  | 1 => .reg .bx
  | 2 => .reg .cx
  | 3 => .reg .dx
  | 4 => .reg .sp
  | 5 => .reg .bp
  | 6 => .reg .si
  | 7 => .reg .di
  | 8 => .reg .cs
  | 9 => .reg .ds
  | 10 => .reg .es
  | 11 => .reg .ss
  | _ => .bad c

/-- Base codes (30_encoding.md R72). -/
def EaBase.ofCode (c : BitVec 3) : EaBase :=
  match c.toNat with
  | 0 => .bxSi
  | 1 => .bxDi
  | 2 => .bpSi
  | 3 => .bpDi
  | 4 => .si
  | 5 => .di
  | 6 => .bp
  | _ => .bx

/-- Mode codes `8 * dform + base`, 24 and 25 (30_encoding.md R72), with the displacement field of R73. -/
def AddrMode.ofCode (code : BitVec 5) (disp : Word) : Decoded AddrMode :=
  match (code.extractLsb' 3 2).toNat with
  | 0 => requireZero disp .payloadNonzero (.plain (EaBase.ofCode (code.extractLsb' 0 3)))
  | 1 => requireZero (disp.extractLsb' 8 8) .payloadNonzero
      (.disp8 (EaBase.ofCode (code.extractLsb' 0 3)) (disp.extractLsb' 0 8))
  | 2 => .ok (.disp16 (EaBase.ofCode (code.extractLsb' 0 3)) disp)
  | _ =>
    match (code.extractLsb' 0 3).toNat with
    | 0 => .ok (.direct disp)
    | 1 => requireZero disp .payloadNonzero .registerMode
    | _ => .malformed .modeReserved

/-- Kind codes (30_encoding.md R68) and the payload layout of each kind (R69). -/
def Operand.ofPayload (kind : BitVec 4) (p : BitVec 32) : Decoded Operand :=
  match kind.toNat with
  | 0 => requireZero (p.extractLsb' 8 24) .payloadNonzero (.immediate8 (p.extractLsb' 0 8))
  | 1 => requireZero (p.extractLsb' 16 16) .payloadNonzero (.immediate16 (p.extractLsb' 0 16))
  | 2 => requireZero (p.extractLsb' 8 24) .payloadNonzero (.relative8 (p.extractLsb' 0 8))
  | 3 => requireZero (p.extractLsb' 16 16) .payloadNonzero (.relative16 (p.extractLsb' 0 16))
  | 4 => requireZero (p.extractLsb' 16 16) .payloadNonzero (.offset8 (p.extractLsb' 0 16))
  | 5 => requireZero (p.extractLsb' 16 16) .payloadNonzero (.offset16 (p.extractLsb' 0 16))
  | 6 => requireZero (p.extractLsb' 3 29) .payloadNonzero (.register8 (Reg8.ofCode (p.extractLsb' 0 3)))
  | 7 => requireZero (p.extractLsb' 4 28) .payloadNonzero (.register16 (Reg16Id.ofCode (p.extractLsb' 0 4)))
  | 8 => (requireZero (p.extractLsb' 21 11) .payloadNonzero ()).bind fun _ =>
      (AddrMode.ofCode (p.extractLsb' 16 5) (p.extractLsb' 0 16)).bind fun m => .ok (.addressingMode m)
  | 9 => requireZero (p.extractLsb' 16 16) .payloadNonzero (.nearAddress (p.extractLsb' 0 16))
  | 10 => .ok (.farAddress (p.extractLsb' 16 16) (p.extractLsb' 0 16))
  | 11 => requireZero p .payloadNonzero .noOperand
  | 12 => requireZero p .payloadNonzero .invalidOperand
  | _ => .malformed .kindReserved

/-- Operation codes (30_encoding.md R66) and the `wdata` field (R74). -/
def Request.ofFields (op : BitVec 2) (o : Operand) (ovr : SegOverride) (wdata : Word) : Decoded Request :=
  match op.toNat with
  | 0 => requireZero wdata .wdataNonzero (.read8 o ovr)
  | 1 => requireZero wdata .wdataNonzero (.read16 o ovr)
  | 2 => requireZero (wdata.extractLsb' 8 8) .wdataNonzero (.write8 o ovr (wdata.extractLsb' 0 8))
  | _ => .ok (.write16 o ovr wdata)

/-- The request a word stands for (30_encoding.md R75). -/
def decodeRequest (w : ReqWord) : Decoded Request :=
  match SegOverride.ofCode (ovrField w) with
  | none => .malformed .overrideReserved
  | some ovr =>
    (requireZero (mbzField w) .mbzNonzero ()).bind fun _ =>
      (Operand.ofPayload (kindField w) (payloadField w)).bind fun o =>
        Request.ofFields (opField w) o ovr (wdataField w)

/-- The row of the opcode table a request belongs to (30_encoding.md R83). -/
def Instr.ofRequest : Request → Instr
  | .read8 (.immediate8 v) ovr => .read8Immediate8 v ovr
  | .read8 (.immediate16 v) ovr => .read8Immediate16 v ovr
  | .read8 (.relative8 r) ovr => .read8Relative8 r ovr
  | .read8 (.relative16 r) ovr => .read8Relative16 r ovr
  | .read8 (.offset8 o) ovr => .read8Offset8 o ovr
  | .read8 (.offset16 o) ovr => .read8Offset16 o ovr
  | .read8 (.register8 id) ovr => .read8Register8 id ovr
  | .read8 (.register16 id) ovr => .read8Register16 id ovr
  | .read8 (.addressingMode (.plain .bxSi)) ovr => .read8BxSi ovr
  | .read8 (.addressingMode (.plain .bxDi)) ovr => .read8BxDi ovr
  | .read8 (.addressingMode (.plain .bpSi)) ovr => .read8BpSi ovr
  | .read8 (.addressingMode (.plain .bpDi)) ovr => .read8BpDi ovr
  | .read8 (.addressingMode (.plain .si)) ovr => .read8Si ovr
  | .read8 (.addressingMode (.plain .di)) ovr => .read8Di ovr
  | .read8 (.addressingMode (.plain .bp)) ovr => .read8Bp ovr
  | .read8 (.addressingMode (.plain .bx)) ovr => .read8Bx ovr
  | .read8 (.addressingMode (.disp8 .bxSi d)) ovr => .read8BxSiDisp8 d ovr
  | .read8 (.addressingMode (.disp8 .bxDi d)) ovr => .read8BxDiDisp8 d ovr
  | .read8 (.addressingMode (.disp8 .bpSi d)) ovr => .read8BpSiDisp8 d ovr
  | .read8 (.addressingMode (.disp8 .bpDi d)) ovr => .read8BpDiDisp8 d ovr
  | .read8 (.addressingMode (.disp8 .si d)) ovr => .read8SiDisp8 d ovr
  | .read8 (.addressingMode (.disp8 .di d)) ovr => .read8DiDisp8 d ovr
  | .read8 (.addressingMode (.disp8 .bp d)) ovr => .read8BpDisp8 d ovr
  | .read8 (.addressingMode (.disp8 .bx d)) ovr => .read8BxDisp8 d ovr
  | .read8 (.addressingMode (.disp16 .bxSi d)) ovr => .read8BxSiDisp16 d ovr
  | .read8 (.addressingMode (.disp16 .bxDi d)) ovr => .read8BxDiDisp16 d ovr
  | .read8 (.addressingMode (.disp16 .bpSi d)) ovr => .read8BpSiDisp16 d ovr
  | .read8 (.addressingMode (.disp16 .bpDi d)) ovr => .read8BpDiDisp16 d ovr
  | .read8 (.addressingMode (.disp16 .si d)) ovr => .read8SiDisp16 d ovr
  | .read8 (.addressingMode (.disp16 .di d)) ovr => .read8DiDisp16 d ovr
  | .read8 (.addressingMode (.disp16 .bp d)) ovr => .read8BpDisp16 d ovr
  | .read8 (.addressingMode (.disp16 .bx d)) ovr => .read8BxDisp16 d ovr
  | .read8 (.addressingMode (.direct d)) ovr => .read8Disp16 d ovr
  | .read8 (.addressingMode .registerMode) ovr => .read8RegisterMode ovr
  | .read8 (.nearAddress a) ovr => .read8NearAddress a ovr
  | .read8 (.farAddress seg off) ovr => .read8FarAddress seg off ovr
  | .read8 .noOperand ovr => .read8NoOperand ovr
  | .read8 .invalidOperand ovr => .read8InvalidOperand ovr
  | .read16 (.immediate8 v) ovr => .read16Immediate8 v ovr
  | .read16 (.immediate16 v) ovr => .read16Immediate16 v ovr
  | .read16 (.relative8 r) ovr => .read16Relative8 r ovr
  | .read16 (.relative16 r) ovr => .read16Relative16 r ovr
  | .read16 (.offset8 o) ovr => .read16Offset8 o ovr
  | .read16 (.offset16 o) ovr => .read16Offset16 o ovr
  | .read16 (.register8 id) ovr => .read16Register8 id ovr
  | .read16 (.register16 id) ovr => .read16Register16 id ovr
  | .read16 (.addressingMode (.plain .bxSi)) ovr => .read16BxSi ovr
  | .read16 (.addressingMode (.plain .bxDi)) ovr => .read16BxDi ovr
  | .read16 (.addressingMode (.plain .bpSi)) ovr => .read16BpSi ovr
  | .read16 (.addressingMode (.plain .bpDi)) ovr => .read16BpDi ovr
  | .read16 (.addressingMode (.plain .si)) ovr => .read16Si ovr
  | .read16 (.addressingMode (.plain .di)) ovr => .read16Di ovr
  | .read16 (.addressingMode (.plain .bp)) ovr => .read16Bp ovr
  | .read16 (.addressingMode (.plain .bx)) ovr => .read16Bx ovr
  | .read16 (.addressingMode (.disp8 .bxSi d)) ovr => .read16BxSiDisp8 d ovr
  | .read16 (.addressingMode (.disp8 .bxDi d)) ovr => .read16BxDiDisp8 d ovr
  | .read16 (.addressingMode (.disp8 .bpSi d)) ovr => .read16BpSiDisp8 d ovr
  | .read16 (.addressingMode (.disp8 .bpDi d)) ovr => .read16BpDiDisp8 d ovr
  | .read16 (.addressingMode (.disp8 .si d)) ovr => .read16SiDisp8 d ovr
  | .read16 (.addressingMode (.disp8 .di d)) ovr => .read16DiDisp8 d ovr
  | .read16 (.addressingMode (.disp8 .bp d)) ovr => .read16BpDisp8 d ovr
  | .read16 (.addressingMode (.disp8 .bx d)) ovr => .read16BxDisp8 d ovr
  | .read16 (.addressingMode (.disp16 .bxSi d)) ovr => .read16BxSiDisp16 d ovr
  | .read16 (.addressingMode (.disp16 .bxDi d)) ovr => .read16BxDiDisp16 d ovr
  | .read16 (.addressingMode (.disp16 .bpSi d)) ovr => .read16BpSiDisp16 d ovr
  | .read16 (.addressingMode (.disp16 .bpDi d)) ovr => .read16BpDiDisp16 d ovr
  | .read16 (.addressingMode (.disp16 .si d)) ovr => .read16SiDisp16 d ovr
  | .read16 (.addressingMode (.disp16 .di d)) ovr => .read16DiDisp16 d ovr
  | .read16 (.addressingMode (.disp16 .bp d)) ovr => .read16BpDisp16 d ovr
  | .read16 (.addressingMode (.disp16 .bx d)) ovr => .read16BxDisp16 d ovr
  | .read16 (.addressingMode (.direct d)) ovr => .read16Disp16 d ovr
  | .read16 (.addressingMode .registerMode) ovr => .read16RegisterMode ovr
  | .read16 (.nearAddress a) ovr => .read16NearAddress a ovr
  | .read16 (.farAddress seg off) ovr => .read16FarAddress seg off ovr
  | .read16 .noOperand ovr => .read16NoOperand ovr
  | .read16 .invalidOperand ovr => .read16InvalidOperand ovr
  | .write8 (.immediate8 v) ovr value => .write8Immediate8 v ovr value
  | .write8 (.immediate16 v) ovr value => .write8Immediate16 v ovr value
  | .write8 (.relative8 r) ovr value => .write8Relative8 r ovr value
  | .write8 (.relative16 r) ovr value => .write8Relative16 r ovr value
  | .write8 (.offset8 o) ovr value => .write8Offset8 o ovr value
  | .write8 (.offset16 o) ovr value => .write8Offset16 o ovr value
  | .write8 (.register8 id) ovr value => .write8Register8 id ovr value
  | .write8 (.register16 id) ovr value => .write8Register16 id ovr value
  | .write8 (.addressingMode (.plain .bxSi)) ovr value => .write8BxSi ovr value
  | .write8 (.addressingMode (.plain .bxDi)) ovr value => .write8BxDi ovr value
  | .write8 (.addressingMode (.plain .bpSi)) ovr value => .write8BpSi ovr value
  | .write8 (.addressingMode (.plain .bpDi)) ovr value => .write8BpDi ovr value
  | .write8 (.addressingMode (.plain .si)) ovr value => .write8Si ovr value
  | .write8 (.addressingMode (.plain .di)) ovr value => .write8Di ovr value
  | .write8 (.addressingMode (.plain .bp)) ovr value => .write8Bp ovr value
  | .write8 (.addressingMode (.plain .bx)) ovr value => .write8Bx ovr value
  | .write8 (.addressingMode (.disp8 .bxSi d)) ovr value => .write8BxSiDisp8 d ovr value
  | .write8 (.addressingMode (.disp8 .bxDi d)) ovr value => .write8BxDiDisp8 d ovr value
  | .write8 (.addressingMode (.disp8 .bpSi d)) ovr value => .write8BpSiDisp8 d ovr value
  | .write8 (.addressingMode (.disp8 .bpDi d)) ovr value => .write8BpDiDisp8 d ovr value
  | .write8 (.addressingMode (.disp8 .si d)) ovr value => .write8SiDisp8 d ovr value
  | .write8 (.addressingMode (.disp8 .di d)) ovr value => .write8DiDisp8 d ovr value
  | .write8 (.addressingMode (.disp8 .bp d)) ovr value => .write8BpDisp8 d ovr value
  | .write8 (.addressingMode (.disp8 .bx d)) ovr value => .write8BxDisp8 d ovr value
  | .write8 (.addressingMode (.disp16 .bxSi d)) ovr value => .write8BxSiDisp16 d ovr value
  | .write8 (.addressingMode (.disp16 .bxDi d)) ovr value => .write8BxDiDisp16 d ovr value
  | .write8 (.addressingMode (.disp16 .bpSi d)) ovr value => .write8BpSiDisp16 d ovr value
  | .write8 (.addressingMode (.disp16 .bpDi d)) ovr value => .write8BpDiDisp16 d ovr value
  | .write8 (.addressingMode (.disp16 .si d)) ovr value => .write8SiDisp16 d ovr value
  | .write8 (.addressingMode (.disp16 .di d)) ovr value => .write8DiDisp16 d ovr value
  | .write8 (.addressingMode (.disp16 .bp d)) ovr value => .write8BpDisp16 d ovr value
  | .write8 (.addressingMode (.disp16 .bx d)) ovr value => .write8BxDisp16 d ovr value
  | .write8 (.addressingMode (.direct d)) ovr value => .write8Disp16 d ovr value
  | .write8 (.addressingMode .registerMode) ovr value => .write8RegisterMode ovr value
  | .write8 (.nearAddress a) ovr value => .write8NearAddress a ovr value
  | .write8 (.farAddress seg off) ovr value => .write8FarAddress seg off ovr value
  | .write8 .noOperand ovr value => .write8NoOperand ovr value
  | .write8 .invalidOperand ovr value => .write8InvalidOperand ovr value
  | .write16 (.immediate8 v) ovr value => .write16Immediate8 v ovr value
  | .write16 (.immediate16 v) ovr value => .write16Immediate16 v ovr value
  | .write16 (.relative8 r) ovr value => .write16Relative8 r ovr value
  | .write16 (.relative16 r) ovr value => .write16Relative16 r ovr value
  | .write16 (.offset8 o) ovr value => .write16Offset8 o ovr value
  | .write16 (.offset16 o) ovr value => .write16Offset16 o ovr value
  | .write16 (.register8 id) ovr value => .write16Register8 id ovr value
  | .write16 (.register16 id) ovr value => .write16Register16 id ovr value
  | .write16 (.addressingMode (.plain .bxSi)) ovr value => .write16BxSi ovr value
  | .write16 (.addressingMode (.plain .bxDi)) ovr value => .write16BxDi ovr value
  | .write16 (.addressingMode (.plain .bpSi)) ovr value => .write16BpSi ovr value
  | .write16 (.addressingMode (.plain .bpDi)) ovr value => .write16BpDi ovr value
  | .write16 (.addressingMode (.plain .si)) ovr value => .write16Si ovr value
  | .write16 (.addressingMode (.plain .di)) ovr value => .write16Di ovr value
  | .write16 (.addressingMode (.plain .bp)) ovr value => .write16Bp ovr value
  | .write16 (.addressingMode (.plain .bx)) ovr value => .write16Bx ovr value
  | .write16 (.addressingMode (.disp8 .bxSi d)) ovr value => .write16BxSiDisp8 d ovr value
  | .write16 (.addressingMode (.disp8 .bxDi d)) ovr value => .write16BxDiDisp8 d ovr value
  | .write16 (.addressingMode (.disp8 .bpSi d)) ovr value => .write16BpSiDisp8 d ovr value
  | .write16 (.addressingMode (.disp8 .bpDi d)) ovr value => .write16BpDiDisp8 d ovr value
  | .write16 (.addressingMode (.disp8 .si d)) ovr value => .write16SiDisp8 d ovr value
  | .write16 (.addressingMode (.disp8 .di d)) ovr value => .write16DiDisp8 d ovr value
  | .write16 (.addressingMode (.disp8 .bp d)) ovr value => .write16BpDisp8 d ovr value
  | .write16 (.addressingMode (.disp8 .bx d)) ovr value => .write16BxDisp8 d ovr value
  | .write16 (.addressingMode (.disp16 .bxSi d)) ovr value => .write16BxSiDisp16 d ovr value
  | .write16 (.addressingMode (.disp16 .bxDi d)) ovr value => .write16BxDiDisp16 d ovr value
  | .write16 (.addressingMode (.disp16 .bpSi d)) ovr value => .write16BpSiDisp16 d ovr value
  | .write16 (.addressingMode (.disp16 .bpDi d)) ovr value => .write16BpDiDisp16 d ovr value
  | .write16 (.addressingMode (.disp16 .si d)) ovr value => .write16SiDisp16 d ovr value
  | .write16 (.addressingMode (.disp16 .di d)) ovr value => .write16DiDisp16 d ovr value
  | .write16 (.addressingMode (.disp16 .bp d)) ovr value => .write16BpDisp16 d ovr value
  | .write16 (.addressingMode (.disp16 .bx d)) ovr value => .write16BxDisp16 d ovr value
  | .write16 (.addressingMode (.direct d)) ovr value => .write16Disp16 d ovr value
  | .write16 (.addressingMode .registerMode) ovr value => .write16RegisterMode ovr value
  | .write16 (.nearAddress a) ovr value => .write16NearAddress a ovr value
  | .write16 (.farAddress seg off) ovr value => .write16FarAddress seg off ovr value
  | .write16 .noOperand ovr value => .write16NoOperand ovr value
  | .write16 .invalidOperand ovr value => .write16InvalidOperand ovr value

/-- Decoding of a request word: total, rejecting by name (30_encoding.md R75). -/
def decode (w : ReqWord) : Decoded Instr :=
  (decodeRequest w).bind fun r => .ok (Instr.ofRequest r)

/-- The decoder on a word numbered as `spec/opcode_table.json` numbers it: one 64-bit word, bit 0 its least significant
bit; the bits above `nbits` are zero. A row wider than a request word has no instruction. -/
def decodeTableWord (nbits w : Nat) : Option Instr :=
  if 64 < nbits then none
  else
    match decode (BitVec.ofNat 64 (w % 2 ^ nbits)) with
    | .ok i => some i
    | .malformed _ => none

/-! ## Encoding -/

/-- Override codes (30_encoding.md R67). -/
def SegOverride.code : SegOverride → BitVec 3
  | .none => 0
  | .es => 1
  | .cs => 2
  | .ss => 3
  | .ds => 4

/-- Register8 codes (30_encoding.md R70). -/
def Reg8.code : Reg8 → BitVec 3
  | .ah => 0
  | .al => 1
  | .bh => 2
  | .bl => 3
  | .ch => 4
  | .cl => 5
  | .dh => 6
  | .dl => 7

/-- Register16 codes of the legal identities (30_encoding.md R71). -/
def Reg16.code : Reg16 → BitVec 4
  | .ax => 0
  | .bx => 1
  | .cx => 2
  | .dx => 3
  | .sp => 4
  | .bp => 5
  | .si => 6
  | .di => 7
  | .cs => 8
  | .ds => 9
  | .es => 10
  | .ss => 11

/-- Register16 codes (30_encoding.md R71): `bad(n)` has the code `n`. -/
def Reg16Id.code : Reg16Id → BitVec 4
  | .reg r => r.code
  | .bad n => n

/-- Base codes (30_encoding.md R72). -/
def EaBase.code : EaBase → BitVec 3
  | .bxSi => 0
  | .bxDi => 1
  | .bpSi => 2
  | .bpDi => 3
  | .si => 4
  | .di => 5
  | .bp => 6
  | .bx => 7

/-- Mode codes (30_encoding.md R72): `8 * dform + base`, 24, 25. -/
def AddrMode.code : AddrMode → BitVec 5
  | .plain b => 0#2 ++ b.code
  | .disp8 b _ => 1#2 ++ b.code
  | .disp16 b _ => 2#2 ++ b.code
  | .direct _ => 24
  | .registerMode => 25

/-- The displacement field `p[15:0]` (30_encoding.md R73). -/
def AddrMode.dispField : AddrMode → Word
  | .plain _ => 0
  | .disp8 _ d => 0#8 ++ d
  | .disp16 _ d => d
  | .direct d => d
  | .registerMode => 0

/-- Kind codes (30_encoding.md R68). -/
def Operand.kindCode : Operand → BitVec 4
  | .immediate8 _ => 0
  | .immediate16 _ => 1
  | .relative8 _ => 2
  | .relative16 _ => 3
  | .offset8 _ => 4
  | .offset16 _ => 5
  | .register8 _ => 6
  | .register16 _ => 7
  | .addressingMode _ => 8
  | .nearAddress _ => 9
  | .farAddress _ _ => 10
  | .noOperand => 11
  | .invalidOperand => 12

/-- Payload layouts (30_encoding.md R69). -/
def Operand.payload : Operand → BitVec 32
  | .immediate8 v => 0#24 ++ v
  | .immediate16 v => 0#16 ++ v
  | .relative8 r => 0#24 ++ r
  | .relative16 r => 0#16 ++ r
  | .offset8 o => 0#16 ++ o
  | .offset16 o => 0#16 ++ o
  | .register8 id => 0#29 ++ id.code
  | .register16 id => 0#28 ++ id.code
  | .addressingMode m => 0#11 ++ m.code ++ m.dispField
  | .nearAddress a => 0#16 ++ a
  | .farAddress seg off => seg ++ off
  | .noOperand => 0
  | .invalidOperand => 0

/-- Operation codes (30_encoding.md R66). -/
def Request.opCode : Request → BitVec 2
  | .read8 _ _ => 0
  | .read16 _ _ => 1
  | .write8 _ _ _ => 2
  | .write16 _ _ _ => 3

/-- The operand of a request (30_encoding.md R60). -/
def Request.operand : Request → Operand
  | .read8 o _ | .read16 o _ | .write8 o _ _ | .write16 o _ _ => o

/-- The override of a request (30_encoding.md R60). -/
def Request.override : Request → SegOverride
  | .read8 _ v | .read16 _ v | .write8 _ v _ | .write16 _ v _ => v

/-- The `wdata` field (30_encoding.md R74). -/
def Request.wdata : Request → Word
  | .read8 _ _ => 0
  | .read16 _ _ => 0
  | .write8 _ _ value => 0#8 ++ value
  | .write16 _ _ value => value

/-- The request word from its fields, most significant first (30_encoding.md R65). -/
def packFields (op : BitVec 2) (ovr : BitVec 3) (kind : BitVec 4) (mbz : BitVec 7) (p : BitVec 32) (wdata : Word) :
    ReqWord :=
  op ++ ovr ++ kind ++ mbz ++ p ++ wdata

/-- The word of a request (30_encoding.md R65 to R74). -/
def encodeRequest (r : Request) : ReqWord :=
  packFields r.opCode r.override.code r.operand.kindCode 0 r.operand.payload r.wdata

/-- The request an instruction stands for (30_encoding.md R83). -/
def Instr.request : Instr → Request
  | .read8Immediate8 v ovr => .read8 (.immediate8 v) ovr
  | .read8Immediate16 v ovr => .read8 (.immediate16 v) ovr
  | .read8Relative8 r ovr => .read8 (.relative8 r) ovr
  | .read8Relative16 r ovr => .read8 (.relative16 r) ovr
  | .read8Offset8 o ovr => .read8 (.offset8 o) ovr
  | .read8Offset16 o ovr => .read8 (.offset16 o) ovr
  | .read8Register8 id ovr => .read8 (.register8 id) ovr
  | .read8Register16 id ovr => .read8 (.register16 id) ovr
  | .read8BxSi ovr => .read8 (.addressingMode (.plain .bxSi)) ovr
  | .read8BxDi ovr => .read8 (.addressingMode (.plain .bxDi)) ovr
  | .read8BpSi ovr => .read8 (.addressingMode (.plain .bpSi)) ovr
  | .read8BpDi ovr => .read8 (.addressingMode (.plain .bpDi)) ovr
  | .read8Si ovr => .read8 (.addressingMode (.plain .si)) ovr
  | .read8Di ovr => .read8 (.addressingMode (.plain .di)) ovr
  | .read8Bp ovr => .read8 (.addressingMode (.plain .bp)) ovr
  | .read8Bx ovr => .read8 (.addressingMode (.plain .bx)) ovr
  | .read8BxSiDisp8 d ovr => .read8 (.addressingMode (.disp8 .bxSi d)) ovr
  | .read8BxDiDisp8 d ovr => .read8 (.addressingMode (.disp8 .bxDi d)) ovr
  | .read8BpSiDisp8 d ovr => .read8 (.addressingMode (.disp8 .bpSi d)) ovr
  | .read8BpDiDisp8 d ovr => .read8 (.addressingMode (.disp8 .bpDi d)) ovr
  | .read8SiDisp8 d ovr => .read8 (.addressingMode (.disp8 .si d)) ovr
  | .read8DiDisp8 d ovr => .read8 (.addressingMode (.disp8 .di d)) ovr
  | .read8BpDisp8 d ovr => .read8 (.addressingMode (.disp8 .bp d)) ovr
  | .read8BxDisp8 d ovr => .read8 (.addressingMode (.disp8 .bx d)) ovr
  | .read8BxSiDisp16 d ovr => .read8 (.addressingMode (.disp16 .bxSi d)) ovr
  | .read8BxDiDisp16 d ovr => .read8 (.addressingMode (.disp16 .bxDi d)) ovr
  | .read8BpSiDisp16 d ovr => .read8 (.addressingMode (.disp16 .bpSi d)) ovr
  | .read8BpDiDisp16 d ovr => .read8 (.addressingMode (.disp16 .bpDi d)) ovr
  | .read8SiDisp16 d ovr => .read8 (.addressingMode (.disp16 .si d)) ovr
  | .read8DiDisp16 d ovr => .read8 (.addressingMode (.disp16 .di d)) ovr
  | .read8BpDisp16 d ovr => .read8 (.addressingMode (.disp16 .bp d)) ovr
  | .read8BxDisp16 d ovr => .read8 (.addressingMode (.disp16 .bx d)) ovr
  | .read8Disp16 d ovr => .read8 (.addressingMode (.direct d)) ovr
  | .read8RegisterMode ovr => .read8 (.addressingMode .registerMode) ovr
  | .read8NearAddress a ovr => .read8 (.nearAddress a) ovr
  | .read8FarAddress seg off ovr => .read8 (.farAddress seg off) ovr
  | .read8NoOperand ovr => .read8 .noOperand ovr
  | .read8InvalidOperand ovr => .read8 .invalidOperand ovr
  | .read16Immediate8 v ovr => .read16 (.immediate8 v) ovr
  | .read16Immediate16 v ovr => .read16 (.immediate16 v) ovr
  | .read16Relative8 r ovr => .read16 (.relative8 r) ovr
  | .read16Relative16 r ovr => .read16 (.relative16 r) ovr
  | .read16Offset8 o ovr => .read16 (.offset8 o) ovr
  | .read16Offset16 o ovr => .read16 (.offset16 o) ovr
  | .read16Register8 id ovr => .read16 (.register8 id) ovr
  | .read16Register16 id ovr => .read16 (.register16 id) ovr
  | .read16BxSi ovr => .read16 (.addressingMode (.plain .bxSi)) ovr
  | .read16BxDi ovr => .read16 (.addressingMode (.plain .bxDi)) ovr
  | .read16BpSi ovr => .read16 (.addressingMode (.plain .bpSi)) ovr
  | .read16BpDi ovr => .read16 (.addressingMode (.plain .bpDi)) ovr
  | .read16Si ovr => .read16 (.addressingMode (.plain .si)) ovr
  | .read16Di ovr => .read16 (.addressingMode (.plain .di)) ovr
  | .read16Bp ovr => .read16 (.addressingMode (.plain .bp)) ovr
  | .read16Bx ovr => .read16 (.addressingMode (.plain .bx)) ovr
  | .read16BxSiDisp8 d ovr => .read16 (.addressingMode (.disp8 .bxSi d)) ovr
  | .read16BxDiDisp8 d ovr => .read16 (.addressingMode (.disp8 .bxDi d)) ovr
  | .read16BpSiDisp8 d ovr => .read16 (.addressingMode (.disp8 .bpSi d)) ovr
  | .read16BpDiDisp8 d ovr => .read16 (.addressingMode (.disp8 .bpDi d)) ovr
  | .read16SiDisp8 d ovr => .read16 (.addressingMode (.disp8 .si d)) ovr
  | .read16DiDisp8 d ovr => .read16 (.addressingMode (.disp8 .di d)) ovr
  | .read16BpDisp8 d ovr => .read16 (.addressingMode (.disp8 .bp d)) ovr
  | .read16BxDisp8 d ovr => .read16 (.addressingMode (.disp8 .bx d)) ovr
  | .read16BxSiDisp16 d ovr => .read16 (.addressingMode (.disp16 .bxSi d)) ovr
  | .read16BxDiDisp16 d ovr => .read16 (.addressingMode (.disp16 .bxDi d)) ovr
  | .read16BpSiDisp16 d ovr => .read16 (.addressingMode (.disp16 .bpSi d)) ovr
  | .read16BpDiDisp16 d ovr => .read16 (.addressingMode (.disp16 .bpDi d)) ovr
  | .read16SiDisp16 d ovr => .read16 (.addressingMode (.disp16 .si d)) ovr
  | .read16DiDisp16 d ovr => .read16 (.addressingMode (.disp16 .di d)) ovr
  | .read16BpDisp16 d ovr => .read16 (.addressingMode (.disp16 .bp d)) ovr
  | .read16BxDisp16 d ovr => .read16 (.addressingMode (.disp16 .bx d)) ovr
  | .read16Disp16 d ovr => .read16 (.addressingMode (.direct d)) ovr
  | .read16RegisterMode ovr => .read16 (.addressingMode .registerMode) ovr
  | .read16NearAddress a ovr => .read16 (.nearAddress a) ovr
  | .read16FarAddress seg off ovr => .read16 (.farAddress seg off) ovr
  | .read16NoOperand ovr => .read16 .noOperand ovr
  | .read16InvalidOperand ovr => .read16 .invalidOperand ovr
  | .write8Immediate8 v ovr value => .write8 (.immediate8 v) ovr value
  | .write8Immediate16 v ovr value => .write8 (.immediate16 v) ovr value
  | .write8Relative8 r ovr value => .write8 (.relative8 r) ovr value
  | .write8Relative16 r ovr value => .write8 (.relative16 r) ovr value
  | .write8Offset8 o ovr value => .write8 (.offset8 o) ovr value
  | .write8Offset16 o ovr value => .write8 (.offset16 o) ovr value
  | .write8Register8 id ovr value => .write8 (.register8 id) ovr value
  | .write8Register16 id ovr value => .write8 (.register16 id) ovr value
  | .write8BxSi ovr value => .write8 (.addressingMode (.plain .bxSi)) ovr value
  | .write8BxDi ovr value => .write8 (.addressingMode (.plain .bxDi)) ovr value
  | .write8BpSi ovr value => .write8 (.addressingMode (.plain .bpSi)) ovr value
  | .write8BpDi ovr value => .write8 (.addressingMode (.plain .bpDi)) ovr value
  | .write8Si ovr value => .write8 (.addressingMode (.plain .si)) ovr value
  | .write8Di ovr value => .write8 (.addressingMode (.plain .di)) ovr value
  | .write8Bp ovr value => .write8 (.addressingMode (.plain .bp)) ovr value
  | .write8Bx ovr value => .write8 (.addressingMode (.plain .bx)) ovr value
  | .write8BxSiDisp8 d ovr value => .write8 (.addressingMode (.disp8 .bxSi d)) ovr value
  | .write8BxDiDisp8 d ovr value => .write8 (.addressingMode (.disp8 .bxDi d)) ovr value
  | .write8BpSiDisp8 d ovr value => .write8 (.addressingMode (.disp8 .bpSi d)) ovr value
  | .write8BpDiDisp8 d ovr value => .write8 (.addressingMode (.disp8 .bpDi d)) ovr value
  | .write8SiDisp8 d ovr value => .write8 (.addressingMode (.disp8 .si d)) ovr value
  | .write8DiDisp8 d ovr value => .write8 (.addressingMode (.disp8 .di d)) ovr value
  | .write8BpDisp8 d ovr value => .write8 (.addressingMode (.disp8 .bp d)) ovr value
  | .write8BxDisp8 d ovr value => .write8 (.addressingMode (.disp8 .bx d)) ovr value
  | .write8BxSiDisp16 d ovr value => .write8 (.addressingMode (.disp16 .bxSi d)) ovr value
  | .write8BxDiDisp16 d ovr value => .write8 (.addressingMode (.disp16 .bxDi d)) ovr value
  | .write8BpSiDisp16 d ovr value => .write8 (.addressingMode (.disp16 .bpSi d)) ovr value
  | .write8BpDiDisp16 d ovr value => .write8 (.addressingMode (.disp16 .bpDi d)) ovr value
  | .write8SiDisp16 d ovr value => .write8 (.addressingMode (.disp16 .si d)) ovr value
  | .write8DiDisp16 d ovr value => .write8 (.addressingMode (.disp16 .di d)) ovr value
  | .write8BpDisp16 d ovr value => .write8 (.addressingMode (.disp16 .bp d)) ovr value
  | .write8BxDisp16 d ovr value => .write8 (.addressingMode (.disp16 .bx d)) ovr value
  | .write8Disp16 d ovr value => .write8 (.addressingMode (.direct d)) ovr value
  | .write8RegisterMode ovr value => .write8 (.addressingMode .registerMode) ovr value
  | .write8NearAddress a ovr value => .write8 (.nearAddress a) ovr value
  | .write8FarAddress seg off ovr value => .write8 (.farAddress seg off) ovr value
  | .write8NoOperand ovr value => .write8 .noOperand ovr value
  | .write8InvalidOperand ovr value => .write8 .invalidOperand ovr value
  | .write16Immediate8 v ovr value => .write16 (.immediate8 v) ovr value
  | .write16Immediate16 v ovr value => .write16 (.immediate16 v) ovr value
  | .write16Relative8 r ovr value => .write16 (.relative8 r) ovr value
  | .write16Relative16 r ovr value => .write16 (.relative16 r) ovr value
  | .write16Offset8 o ovr value => .write16 (.offset8 o) ovr value
  | .write16Offset16 o ovr value => .write16 (.offset16 o) ovr value
  | .write16Register8 id ovr value => .write16 (.register8 id) ovr value
  | .write16Register16 id ovr value => .write16 (.register16 id) ovr value
  | .write16BxSi ovr value => .write16 (.addressingMode (.plain .bxSi)) ovr value
  | .write16BxDi ovr value => .write16 (.addressingMode (.plain .bxDi)) ovr value
  | .write16BpSi ovr value => .write16 (.addressingMode (.plain .bpSi)) ovr value
  | .write16BpDi ovr value => .write16 (.addressingMode (.plain .bpDi)) ovr value
  | .write16Si ovr value => .write16 (.addressingMode (.plain .si)) ovr value
  | .write16Di ovr value => .write16 (.addressingMode (.plain .di)) ovr value
  | .write16Bp ovr value => .write16 (.addressingMode (.plain .bp)) ovr value
  | .write16Bx ovr value => .write16 (.addressingMode (.plain .bx)) ovr value
  | .write16BxSiDisp8 d ovr value => .write16 (.addressingMode (.disp8 .bxSi d)) ovr value
  | .write16BxDiDisp8 d ovr value => .write16 (.addressingMode (.disp8 .bxDi d)) ovr value
  | .write16BpSiDisp8 d ovr value => .write16 (.addressingMode (.disp8 .bpSi d)) ovr value
  | .write16BpDiDisp8 d ovr value => .write16 (.addressingMode (.disp8 .bpDi d)) ovr value
  | .write16SiDisp8 d ovr value => .write16 (.addressingMode (.disp8 .si d)) ovr value
  | .write16DiDisp8 d ovr value => .write16 (.addressingMode (.disp8 .di d)) ovr value
  | .write16BpDisp8 d ovr value => .write16 (.addressingMode (.disp8 .bp d)) ovr value
  | .write16BxDisp8 d ovr value => .write16 (.addressingMode (.disp8 .bx d)) ovr value
  | .write16BxSiDisp16 d ovr value => .write16 (.addressingMode (.disp16 .bxSi d)) ovr value
  | .write16BxDiDisp16 d ovr value => .write16 (.addressingMode (.disp16 .bxDi d)) ovr value
  | .write16BpSiDisp16 d ovr value => .write16 (.addressingMode (.disp16 .bpSi d)) ovr value
  | .write16BpDiDisp16 d ovr value => .write16 (.addressingMode (.disp16 .bpDi d)) ovr value
  | .write16SiDisp16 d ovr value => .write16 (.addressingMode (.disp16 .si d)) ovr value
  | .write16DiDisp16 d ovr value => .write16 (.addressingMode (.disp16 .di d)) ovr value
  | .write16BpDisp16 d ovr value => .write16 (.addressingMode (.disp16 .bp d)) ovr value
  | .write16BxDisp16 d ovr value => .write16 (.addressingMode (.disp16 .bx d)) ovr value
  | .write16Disp16 d ovr value => .write16 (.addressingMode (.direct d)) ovr value
  | .write16RegisterMode ovr value => .write16 (.addressingMode .registerMode) ovr value
  | .write16NearAddress a ovr value => .write16 (.nearAddress a) ovr value
  | .write16FarAddress seg off ovr value => .write16 (.farAddress seg off) ovr value
  | .write16NoOperand ovr value => .write16 .noOperand ovr value
  | .write16InvalidOperand ovr value => .write16 .invalidOperand ovr value

/-- The word of an instruction (30_encoding.md R75). -/
def encode (i : Instr) : ReqWord := encodeRequest i.request

end Sys2Proof
end

