-- ==== Sys2Proof/Config.lean ====
section
/-! DEFINITION. The open parameters of 00_scope.md R7: the access cost, the bus error, and the bus. -/

namespace Sys2Proof

/-- The per-access cost the bus reports (20_memory.md R58): a value with no unit, range or arithmetic, told apart from
others by a code. DESIGN CHOICE (safe: every statement holds for every code), log 9. -/
structure Cost where
  code : Nat
  deriving DecidableEq, Repr, Inhabited

/-- What a failed bus call returns (20_memory.md R42): opaque, told apart by a code. DESIGN CHOICE (safe), log 9. -/
structure BusError where
  code : Nat
  deriving DecidableEq, Repr, Inhabited

/-- The answer to one bus call (20_memory.md R42): the value read (`Unit` for a write) with a cost, or an error. -/
inductive BusResult (α : Type) where
  | ok (v : α) (c : Cost)
  | err (e : BusError)
  deriving DecidableEq, Repr, Inhabited

/-- The whole state of an arbitrary bus, memory and devices behind it included, as a code (20_memory.md R43).
DESIGN CHOICE, log 7. -/
structure PlatformBus where
  state : Nat
  deriving DecidableEq, Repr, Inhabited

/-- `read_u8` of an arbitrary bus (20_memory.md R42, R43): uninterpreted, its answer and its next state are free. -/
opaque Config.platformReadU8 : PlatformBus → Addr → BusResult Byte × PlatformBus

/-- `read_u16` of an arbitrary bus: uninterpreted, not related to `platformReadU8` (20_memory.md R43). -/
opaque Config.platformReadU16 : PlatformBus → Addr → BusResult Word × PlatformBus

/-- `write_u8` of an arbitrary bus: uninterpreted. -/
opaque Config.platformWriteU8 : PlatformBus → Addr → Byte → BusResult Unit × PlatformBus

/-- `write_u16` of an arbitrary bus: uninterpreted. -/
opaque Config.platformWriteU16 : PlatformBus → Addr → Word → BusResult Unit × PlatformBus

/-- The one cost `c0` of the reference bus (20_memory.md R50). -/
def Config.refCost : Cost := ⟨0⟩

/-- The one error `UNMAPPED` of the reference bus (20_memory.md R50). -/
def Config.unmapped : BusError := ⟨0⟩

end Sys2Proof
end

