-- ==== Sys2Proof/Machine/State.lean ====
section
/-! DEFINITION. The state of the block (10_state.md R20), of the bus it is connected to (20_memory.md R43, R50), and of its
interface to the requester (00_scope.md R3), as plain data; the outcomes; the state after reset. -/

namespace Sys2Proof.Machine

/-- The register file: eight general and four segment registers of 16 bits (10_state.md R21, R22). The 8-bit halves are views
of it (R23). -/
structure RegFile where
  ax : Word
  bx : Word
  cx : Word
  dx : Word
  sp : Word
  bp : Word
  si : Word
  di : Word
  cs : Word
  ds : Word
  es : Word
  ss : Word
  deriving DecidableEq, Repr

/-- The fatal cause codes of 60_exceptions.md R262, and "no fatal has occurred" (10_state.md R32). -/
inductive Cause where
  | noFatal
  | registerModeEa
  | badRegister16
  | malformedRequest
  deriving DecidableEq, Repr

/-- `DIAG` (10_state.md R32). -/
structure Diag where
  cause : Cause
  req : ReqWord
  deriving DecidableEq, Repr

/-- The four outcomes of a request (00_scope.md R10, 30_encoding.md R79). -/
inductive Status where
  | ok
  | na
  | busError
  | fatal
  deriving DecidableEq, Repr

/-- The response record (30_encoding.md R78). -/
structure Response where
  status : Status
  value : Word
  cost : Option Cost
  err : Option BusError
  cause : Cause
  req : ReqWord
  deriving DecidableEq, Repr

/-- The memory of the reference bus: address and byte pairs, strictly rising addresses, none that reads as an unlisted
address does (20_memory.md R50). -/
abbrev Memory := List Host.Cell

/-- A range of physical addresses, both ends included. -/
structure Region where
  first : Nat
  last : Nat
  deriving DecidableEq, Repr

/-- The reference bus (20_memory.md R50): its memory, and the addresses that are not mapped. -/
structure RefBus where
  mem : Memory
  unmapped : List Region
  deriving DecidableEq, Repr

/-- The bus the block is connected to (20_memory.md R43): the reference bus, or an arbitrary one. -/
inductive Bus where
  | ref (b : RefBus)
  | platform (b : PlatformBus)
  deriving DecidableEq, Repr

/-- One call of a bus function (20_memory.md R42), with its arguments. -/
inductive BusCall where
  | readU8 (a : Addr)
  | readU16 (a : Addr)
  | writeU8 (a : Addr) (v : Byte)
  | writeU16 (a : Addr) (v : Word)
  deriving DecidableEq, Repr

/-- What the surroundings do between two requests (70_reset_and_hazards.md R288(a)). -/
inductive Input where
  /-- The requester issues a request word. -/
  | request (w : ReqWord)
  /-- The reset signal (70_reset_and_hazards.md R270). -/
  | reset
  /-- A bus is connected, or what is behind the bus changes (other bus masters, devices). -/
  | bus (b : Bus)
  deriving DecidableEq, Repr

/-- The machine. `regs`, `halted` and `diag` are the block (10_state.md R20); `bus` is the bus collaborator; the others are the
model's own: the parameter `reset_regs`, what the surroundings do next, the last response, the bus calls made so far. -/
structure State where
  /-- The register file (10_state.md R20(a)). -/
  regs : RegFile
  /-- `HALTED` (10_state.md R31). -/
  halted : Bool
  /-- `DIAG` (10_state.md R32). -/
  diag : Diag
  /-- The connected bus (20_memory.md R43). -/
  bus : Bus
  /-- The parameter `reset_regs` (10_state.md R35). No step writes it. DESIGN CHOICE (unsafe: its value in `State.reset`),
  log 6. -/
  resetRegs : RegFile
  /-- What the surroundings do next, first element first. DESIGN CHOICE (safe), log 1. -/
  inputs : List Input
  /-- The response of the last accepted request since reset (30_encoding.md R78). DESIGN CHOICE (safe), log 2. -/
  response : Option Response
  /-- The bus calls made so far, newest first (20_memory.md R53). DESIGN CHOICE (safe), log 3. -/
  busTrace : List BusCall
  deriving DecidableEq, Repr

/-- Why the machine stops with a fault. -/
inductive Fault where
  /-- `HALTED = 1` and no reset arrives: the block has no step (60_exceptions.md R245). Raised by every meaning and by `step`
  in a halted state. Safe: nothing can be proved about what follows. -/
  | halted
  deriving DecidableEq, Repr

/-- Why there is no meaning. -/
inductive Refusal where
  /-- The instruction has no meaning in this model. Raised by an arm of `exec`; no arm raises it. Safe. -/
  | notModelled (mnemonic : String)
  deriving DecidableEq, Repr

/-- The outcome of one step. -/
abbrev StepResult := Host.Outcome State Fault Refusal

/-- Twelve registers of zero. -/
def RegFile.zero : RegFile := ⟨0, 0, 0, 0, 0, 0, 0, 0, 0, 0, 0, 0⟩

/-- The reference bus of 20_memory.md R50 as it stands "unless a vector says otherwise": every address mapped, no byte
listed. -/
def RefBus.allMapped : RefBus := ⟨[], []⟩

/-- The state right after reset (10_state.md R35) with `r` for the parameter `reset_regs`, `b` the connected bus, and `ins`
what the surroundings do next: the registers hold `r`, `HALTED = 0`, `DIAG = {0, 0}`. -/
def State.resetWith (r : RegFile) (b : Bus) (ins : List Input) : State where
  regs := r
  halted := false
  diag := ⟨.noFatal, 0⟩
  bus := b
  resetRegs := r
  inputs := ins
  response := none
  busTrace := []

/-- The state after reset. The spec leaves `reset_regs` and the bus open: zero and the reference bus are DESIGN CHOICES
(unsafe), log 6 and log 8; no statement rests on them. -/
def State.reset : State := State.resetWith RegFile.zero (.ref RefBus.allMapped) []

end Sys2Proof.Machine
end

