-- ==== Sys2Proof/Machine/Memory.lean ====
section
/-! DEFINITION. Reading and writing the canonical byte list that is the memory of the reference bus (20_memory.md R50). -/

namespace Sys2Proof.Machine

/-- What a byte not listed reads as: `0x00` (20_memory.md R50, for the reference bus only; log 8). -/
def Memory.unlisted : Byte := 0

/-- The number of bytes of the address space (20_memory.md R40). -/
def Memory.size : Nat := 2 ^ 20

/-- The canonical form above a bound: strictly rising addresses of the address space, none reading as an unlisted one. -/
def Memory.wfFrom : Nat → Memory → Bool
  | _, [] => true
  | lo, (a, v) :: rest =>
    decide (lo ≤ a) && decide (a < Memory.size) && decide (v ≠ Memory.unlisted) && Memory.wfFrom (a + 1) rest

/-- The canonical form. -/
def Memory.wf (m : Memory) : Bool := Memory.wfFrom 0 m

/-- The byte at an address. -/
def Memory.get : Memory → Nat → Byte
  | [], _ => Memory.unlisted
  | (b, u) :: rest, a => if a = b then u else Memory.get rest a

/-- A byte in front of a memory, left out when it reads as an unlisted one. -/
def Memory.cons (a : Nat) (v : Byte) (m : Memory) : Memory :=
  if v = Memory.unlisted then m else (a, v) :: m

/-- Writing the byte at an address, keeping the canonical form. -/
def Memory.put : Memory → Nat → Byte → Memory
  | [], a, v => Memory.cons a v []
  | (b, u) :: rest, a, v =>
    if a < b then Memory.cons a v ((b, u) :: rest)
    else if a = b then Memory.cons a v rest
    else (b, u) :: Memory.put rest a v

end Sys2Proof.Machine
end

