-- ==== Sys2Proof/Machine/Bus.lean ====
section
/-! DEFINITION. The four bus functions (20_memory.md R42): of the reference bus (R50), and of whichever bus is connected
(R43). -/

namespace Sys2Proof.Machine

/-- Whether the reference bus has an address mapped (20_memory.md R50). -/
def RefBus.mapped (b : RefBus) (a : Addr) : Bool :=
  !(b.unmapped.any fun r => decide (r.first ≤ a.toNat) && decide (a.toNat ≤ r.last))

/-- The byte of the reference bus at an address (20_memory.md R50). -/
def RefBus.byteAt (b : RefBus) (a : Addr) : Byte := b.mem.get a.toNat

/-- The reference bus after one byte is stored (20_memory.md R50). -/
def RefBus.storeByte (b : RefBus) (a : Addr) (v : Byte) : RefBus := { b with mem := b.mem.put a.toNat v }

/-- `(a + 1) mod 2^20`, where the reference bus has the second byte of a word (20_memory.md R50; log 15). -/
def nextAddr (a : Addr) : Addr := a + 1

/-- Both bytes of a word at `a` are mapped (20_memory.md R50). -/
def RefBus.wordMapped (b : RefBus) (a : Addr) : Bool := b.mapped a && b.mapped (nextAddr a)

/-- `read_u8` of the reference bus (20_memory.md R50). -/
def RefBus.readU8 (b : RefBus) (a : Addr) : BusResult Byte :=
  if b.mapped a then .ok (b.byteAt a) Config.refCost else .err Config.unmapped

/-- `read_u16` of the reference bus: high byte from the next address (20_memory.md R50). -/
def RefBus.readU16 (b : RefBus) (a : Addr) : BusResult Word :=
  if b.wordMapped a then .ok (b.byteAt (nextAddr a) ++ b.byteAt a) Config.refCost else .err Config.unmapped

/-- `write_u8` of the reference bus (20_memory.md R50). -/
def RefBus.writeU8 (b : RefBus) (a : Addr) (v : Byte) : BusResult Unit × RefBus :=
  if b.mapped a then (.ok () Config.refCost, b.storeByte a v) else (.err Config.unmapped, b)

/-- `write_u16` of the reference bus: `v[7:0]` at `a`, `v[15:8]` at the next address (20_memory.md R50). -/
def RefBus.writeU16 (b : RefBus) (a : Addr) (v : Word) : BusResult Unit × RefBus :=
  if b.wordMapped a then
    (.ok () Config.refCost, (b.storeByte a (v.extractLsb' 0 8)).storeByte (nextAddr a) (v.extractLsb' 8 8))
  else (.err Config.unmapped, b)

/-- `read_u8` of the connected bus: the answer and the bus's next state (20_memory.md R42, R43). -/
def Bus.readU8 (b : Bus) (a : Addr) : BusResult Byte × Bus :=
  match b with
  | .ref r => (r.readU8 a, .ref r)
  | .platform p => ((Config.platformReadU8 p a).1, .platform (Config.platformReadU8 p a).2)

/-- `read_u16` of the connected bus. -/
def Bus.readU16 (b : Bus) (a : Addr) : BusResult Word × Bus :=
  match b with
  | .ref r => (r.readU16 a, .ref r)
  | .platform p => ((Config.platformReadU16 p a).1, .platform (Config.platformReadU16 p a).2)

/-- `write_u8` of the connected bus. -/
def Bus.writeU8 (b : Bus) (a : Addr) (v : Byte) : BusResult Unit × Bus :=
  match b with
  | .ref r => ((r.writeU8 a v).1, .ref (r.writeU8 a v).2)
  | .platform p => ((Config.platformWriteU8 p a v).1, .platform (Config.platformWriteU8 p a v).2)

/-- `write_u16` of the connected bus. -/
def Bus.writeU16 (b : Bus) (a : Addr) (v : Word) : BusResult Unit × Bus :=
  match b with
  | .ref r => ((r.writeU16 a v).1, .ref (r.writeU16 a v).2)
  | .platform p => ((Config.platformWriteU16 p a v).1, .platform (Config.platformWriteU16 p a v).2)

end Sys2Proof.Machine
end

