-- ==== Sys2Proof/Machine/Flags.lean ====
section
/-! DEFINITION. The block has no flags or condition codes (10_state.md R30). What a request reports instead is its response:
the status and cause codes and the four response shapes (30_encoding.md R78, R79; 60_exceptions.md R262). -/

namespace Sys2Proof.Machine

/-- Status codes (30_encoding.md R79). -/
def Status.code : Status → Nat
  | .ok => 0
  | .na => 1
  | .busError => 2
  | .fatal => 3

/-- The content of `DIAG.cause`, an 8-bit code (60_exceptions.md R262, 10_state.md R32). -/
def Cause.code : Cause → Byte
  | .noFatal => 0
  | .registerModeEa => 1
  | .badRegister16 => 2
  | .malformedRequest => 3

/-- `OK(v, c)` of a 16-bit read (30_encoding.md R78). -/
def Response.okRead16 (v : Word) (c : Option Cost) : Response := ⟨.ok, v, c, none, .noFatal, 0⟩

/-- `OK(v, c)` of an 8-bit read: `value[7:0] = v`, `value[15:8] = 0` (30_encoding.md R78). -/
def Response.okRead8 (v : Byte) (c : Option Cost) : Response := Response.okRead16 (v.setWidth 16) c

/-- `OK(c)` of a write: no value (30_encoding.md R78). -/
def Response.okWrite (c : Option Cost) : Response := ⟨.ok, 0, c, none, .noFatal, 0⟩

/-- `NA` (30_encoding.md R78, 60_exceptions.md R249). -/
def Response.notApplicable : Response := ⟨.na, 0, none, none, .noFatal, 0⟩

/-- `BUS_ERROR(e)` (60_exceptions.md R247). -/
def Response.busFailed (e : BusError) : Response := ⟨.busError, 0, none, some e, .noFatal, 0⟩

/-- `FATAL(cause)` with the request word (60_exceptions.md R244). -/
def Response.fatalled (c : Cause) (w : ReqWord) : Response := ⟨.fatal, 0, none, none, c, w⟩

end Sys2Proof.Machine
end

