-- ==== Sys2Proof/Machine/Registers.lean ====
section
/-! DEFINITION. Reading and writing the register file by identity (00_scope.md R9, 10_state.md R21 to R25). -/

namespace Sys2Proof.Machine

/-- `x[r]` (00_scope.md R9). -/
def RegFile.get (x : RegFile) : Reg16 → Word
  | .ax => x.ax
  | .bx => x.bx
  | .cx => x.cx
  | .dx => x.dx
  | .sp => x.sp
  | .bp => x.bp
  | .si => x.si
  | .di => x.di
  | .cs => x.cs
  | .ds => x.ds
  | .es => x.es
  | .ss => x.ss

/-- `x[r] <- v` (00_scope.md R9). -/
def RegFile.set (x : RegFile) (r : Reg16) (v : Word) : RegFile :=
  match r with
  | .ax => { x with ax := v }
  | .bx => { x with bx := v }
  | .cx => { x with cx := v }
  | .dx => { x with dx := v }
  | .sp => { x with sp := v }
  | .bp => { x with bp := v }
  | .si => { x with si := v }
  | .di => { x with di := v }
  | .cs => { x with cs := v }
  | .ds => { x with ds := v }
  | .es => { x with es := v }
  | .ss => { x with ss := v }

/-- `P(h)`, the 16-bit register a half belongs to (10_state.md R23). The pairing by first letter is the spec's from general
knowledge (93_implementation_defined.md G1): PRESUMED, log 14. -/
def pairOf : Reg8 → Reg16
  | .ah | .al => .ax
  | .bh | .bl => .bx
  | .ch | .cl => .cx
  | .dh | .dl => .dx

/-- Whether a half is the high one (10_state.md R23). -/
def isHigh : Reg8 → Bool
  | .ah | .bh | .ch | .dh => true
  | .al | .bl | .cl | .dl => false

/-- `w[7:0]`. -/
def lowByte (w : Word) : Byte := w.extractLsb' 0 8

/-- `w[15:8]`. -/
def highByte (w : Word) : Byte := w.extractLsb' 8 8

/-- `(w & 0xFF00) | zext_16(v)` (10_state.md R25). -/
def withLowByte (w : Word) (v : Byte) : Word := (w &&& 0xFF00#16) ||| v.setWidth 16

/-- `(w & 0x00FF) | (zext_16(v) << 8)` (10_state.md R25). -/
def withHighByte (w : Word) (v : Byte) : Word := (w &&& 0x00FF#16) ||| (v.setWidth 16 <<< 8)

/-- `x8[h]` (10_state.md R24). -/
def RegFile.getHalf (x : RegFile) (h : Reg8) : Byte :=
  if isHigh h then highByte (x.get (pairOf h)) else lowByte (x.get (pairOf h))

/-- `x8[h] <- v` (10_state.md R25). -/
def RegFile.setHalf (x : RegFile) (h : Reg8) (v : Byte) : RegFile :=
  x.set (pairOf h)
    (if isHigh h then withHighByte (x.get (pairOf h)) v else withLowByte (x.get (pairOf h)) v)

end Sys2Proof.Machine
end

