-- ==== Sys2Proof/Machine/Operands.lean ====
section
/-! DEFINITION. From an addressing mode to a physical address: the Segment Resolver (40_segment_resolver.md), the Effective
Address Calculator (41_ea_calculator.md) and the Linear Address Translator (42_linear_translator.md). -/

namespace Sys2Proof.Machine

/-- The default segment kind (40_segment_resolver.md R90). -/
inductive SegKind where
  | dataSegment
  | stackSegment
  deriving DecidableEq, Repr

/-- The Segment Resolver (40_segment_resolver.md R90). -/
def resolve (kind : SegKind) (ovr : SegOverride) (x : RegFile) : Word :=
  match ovr with
  | .none =>
    match kind with
    | .dataSegment => x.get .ds
    | .stackSegment => x.get .ss
  | .es => x.get .es
  | .cs => x.get .cs
  | .ss => x.get .ss
  | .ds => x.get .ds

/-- The base and index registers a base names (41_ea_calculator.md R113). -/
def baseRegs : EaBase → List Reg16
  | .bxSi => [.bx, .si]
  | .bxDi => [.bx, .di]
  | .bpSi => [.bp, .si]
  | .bpDi => [.bp, .di]
  | .si => [.si]
  | .di => [.di]
  | .bp => [.bp]
  | .bx => [.bx]

/-- The default segment of a base: the stack segment when it includes `BP` (41_ea_calculator.md R111). -/
def baseSegKind : EaBase → SegKind
  | .bpSi | .bpDi | .bp => .stackSegment
  | .bxSi | .bxDi | .si | .di | .bx => .dataSegment

/-- `add16` (00_scope.md R8). -/
def add16 (a b : Word) : Word := a + b

/-- `sext_16` of an 8-bit value (00_scope.md R8). -/
def sext16 (d : Byte) : Word := d.signExtend 16

/-- `regs(mode)` (41_ea_calculator.md R113). -/
def modeRegs : AddrMode → List Reg16
  | .plain b => baseRegs b
  | .disp8 b _ => baseRegs b
  | .disp16 b _ => baseRegs b
  | .direct _ => []
  | .registerMode => []

/-- `dispval(mode)` (41_ea_calculator.md R112, 30_encoding.md R73). -/
def dispval : AddrMode → Word
  | .plain _ => 0
  | .disp8 _ d => sext16 d
  | .disp16 _ d => d
  | .direct d => d
  | .registerMode => 0

/-- `default_kind(mode)` (41_ea_calculator.md R111); `RegisterMode` has none. -/
def defaultKind : AddrMode → Option SegKind
  | .plain b => some (baseSegKind b)
  | .disp8 b _ => some (baseSegKind b)
  | .disp16 b _ => some (baseSegKind b)
  | .direct _ => some .dataSegment
  | .registerMode => none

/-- The wrapping sum of base and index registers and a displacement (41_ea_calculator.md R113, R140). -/
def offsetSum (rs : List Reg16) (disp : Word) (x : RegFile) : Word :=
  rs.foldr (fun r sum => add16 (x.get r) sum) disp

/-- `calc_ea(mode, ovr)` (41_ea_calculator.md R113): segment and offset; `none` is the fatal case `RegisterMode` (R139), found
before any register is read. -/
def calcEa (m : AddrMode) (ovr : SegOverride) (x : RegFile) : Option (Word × Word) :=
  match defaultKind m with
  | none => none
  | some kind => some (resolve kind ovr x, offsetSum (modeRegs m) (dispval m) x)

/-- `translate(seg, off)` (42_linear_translator.md R150): bits 19:0 of `seg * 16 + off`. -/
def linearAddr (seg off : Word) : Addr := (seg.setWidth 20 <<< 4) + off.setWidth 20

end Sys2Proof.Machine
end

