-- ==== Sys2Proof/Machine/Ops.lean ====
section
/-! DEFINITION. The shared operations: accepting a request, giving its response, the memory primitives (20_memory.md R44),
taking a fatal outcome (60_exceptions.md R244) and, beside it, the reset that alone leaves it (R246). -/

namespace Sys2Proof.Machine

/-- A request is accepted only while `HALTED = 0`; a halted block has no step (60_exceptions.md R245, R250(0)). -/
def accept (s : State) (t : State) : StepResult :=
  if s.halted then .fault .halted else .next t

/-- The request ends with this response (30_encoding.md R78). -/
def State.respond (s : State) (r : Response) : State := { s with response := some r }

/-- One bus call was made, after which the bus is `b` (20_memory.md R43, R53). -/
def State.called (s : State) (c : BusCall) (b : Bus) : State :=
  { s with bus := b, busTrace := c :: s.busTrace }

/-- Fatal entry (60_exceptions.md R244): registers and bus as the request found them, `HALTED <- 1`, `DIAG` the cause and the
request word, response `FATAL`. It is a next state, and the block has no step after it: DEDUCED (safe), log 4. -/
def fatalEntry (c : Cause) (w : ReqWord) (s : State) : State :=
  { s with halted := true, diag := ⟨c, w⟩, response := some (Response.fatalled c w) }

/-- Reset, the sole exit from the halted state (60_exceptions.md R246, 10_state.md R35, 70_reset_and_hazards.md R270, R271): the
registers take `reset_regs`, `HALTED = 0`, `DIAG = {0, 0}`; the bus is not the block's. That the last response is forgotten and
the surroundings' further moves stay is a DESIGN CHOICE (safe), log 12. -/
def applyReset (s : State) : State :=
  { s with regs := s.resetRegs, halted := false, diag := ⟨.noFatal, 0⟩, response := none }

/-- The response to a read's bus call: the value and the cost on, or the error (20_memory.md R44, R58; 60_exceptions.md R247). -/
def readResponse {α : Type} (ok : α → Option Cost → Response) : BusResult α → Response
  | .ok v c => ok v (some c)
  | .err e => Response.busFailed e

/-- The response to a write's bus call (20_memory.md R44, R58; 60_exceptions.md R247). -/
def writeResponse : BusResult Unit → Response
  | .ok _ c => Response.okWrite (some c)
  | .err e => Response.busFailed e

/-- `MemRead(addr, 1)` and its response: one `read_u8` (20_memory.md R44, 43_operand_read.md R169). -/
def memRead8 (a : Addr) (s : State) : State :=
  (s.called (.readU8 a) (s.bus.readU8 a).2).respond (readResponse Response.okRead8 (s.bus.readU8 a).1)

/-- `MemRead(addr, 2)` and its response: one `read_u16` (20_memory.md R44, 43_operand_read.md R184). -/
def memRead16 (a : Addr) (s : State) : State :=
  (s.called (.readU16 a) (s.bus.readU16 a).2).respond (readResponse Response.okRead16 (s.bus.readU16 a).1)

/-- `MemWrite(addr, 1, v)` and its response: one `write_u8` (20_memory.md R44, 44_operand_write.md R209). -/
def memWrite8 (v : Byte) (a : Addr) (s : State) : State :=
  (s.called (.writeU8 a v) (s.bus.writeU8 a v).2).respond (writeResponse (s.bus.writeU8 a v).1)

/-- `MemWrite(addr, 2, v)` and its response: one `write_u16` (20_memory.md R44, 44_operand_write.md R224). -/
def memWrite16 (v : Word) (a : Addr) (s : State) : State :=
  (s.called (.writeU16 a v) (s.bus.writeU16 a v).2).respond (writeResponse (s.bus.writeU16 a v).1)

/-- The memory path of a request with word `w` (43_operand_read.md R169): the effective address, translated once
(20_memory.md R41), handed to the one access; `FATAL(REGISTER_MODE_EA)` when there is none (41_ea_calculator.md R139). -/
def atAddress (m : AddrMode) (ovr : SegOverride) (w : ReqWord) (access : Addr → State → State) (s : State) : State :=
  match calcEa m ovr s.regs with
  | none => fatalEntry .registerModeEa w s
  | some (seg, off) => access (linearAddr seg off) s

end Sys2Proof.Machine
end

