-- ==== Sys2Proof/Machine/Accessor.lean ====
section
/-! DEFINITION. The Operand Accessor: its four entry points (00_scope.md R2, 30_encoding.md R60), each a case per operand kind
(43_operand_read.md, 44_operand_write.md), in the order of checks of 60_exceptions.md R250. The diagnostic of a fatal outcome
holds the request word, which is the encoding of the request (10_state.md R32; log 11). -/

namespace Sys2Proof.Machine

/-- What `read8 operand, ovr` does in a ready block (43_operand_read.md R160 to R173). -/
def read8Effect (o : Operand) (ovr : SegOverride) (s : State) : State :=
  match o with
  | .immediate8 v => s.respond (Response.okRead8 v none)
  | .relative8 r => s.respond (Response.okRead8 r none)
  | .register8 id => s.respond (Response.okRead8 (s.regs.getHalf id) none)
  | .addressingMode m => atAddress m ovr (encodeRequest (.read8 o ovr)) memRead8 s
  | .immediate16 _ | .relative16 _ | .offset8 _ | .offset16 _ | .register16 _ | .nearAddress _ | .farAddress _ _
  | .noOperand | .invalidOperand => s.respond Response.notApplicable

/-- `read8 operand, ovr` (43_operand_read.md R160 to R173), accepted only while `HALTED = 0`. -/
def accessRead8 (o : Operand) (ovr : SegOverride) (s : State) : StepResult :=
  accept s (read8Effect o ovr s)

/-- What `read16 operand, ovr` does in a ready block (43_operand_read.md R175 to R188). -/
def read16Effect (o : Operand) (ovr : SegOverride) (s : State) : State :=
  match o with
  | .immediate16 v => s.respond (Response.okRead16 v none)
  | .relative16 r => s.respond (Response.okRead16 r none)
  | .register16 (.reg r) => s.respond (Response.okRead16 (s.regs.get r) none)
  | .register16 (.bad _) => fatalEntry .badRegister16 (encodeRequest (.read16 o ovr)) s
  | .addressingMode m => atAddress m ovr (encodeRequest (.read16 o ovr)) memRead16 s
  | .immediate8 _ | .relative8 _ | .offset8 _ | .offset16 _ | .register8 _ | .nearAddress _ | .farAddress _ _
  | .noOperand | .invalidOperand => s.respond Response.notApplicable

/-- `read16 operand, ovr` (43_operand_read.md R175 to R188), accepted only while `HALTED = 0`. -/
def accessRead16 (o : Operand) (ovr : SegOverride) (s : State) : StepResult :=
  accept s (read16Effect o ovr s)

/-- What `write8 operand, ovr, value` does in a ready block (44_operand_write.md R200 to R213). -/
def write8Effect (o : Operand) (ovr : SegOverride) (value : Byte) (s : State) : State :=
  match o with
  | .register8 id => { s with regs := s.regs.setHalf id value }.respond (Response.okWrite none)
  | .addressingMode m => atAddress m ovr (encodeRequest (.write8 o ovr value)) (memWrite8 value) s
  | .immediate8 _ | .immediate16 _ | .relative8 _ | .relative16 _ | .offset8 _ | .offset16 _ | .register16 _
  | .nearAddress _ | .farAddress _ _ | .noOperand | .invalidOperand => s.respond Response.notApplicable

/-- `write8 operand, ovr, value` (44_operand_write.md R200 to R213), accepted only while `HALTED = 0`. -/
def accessWrite8 (o : Operand) (ovr : SegOverride) (value : Byte) (s : State) : StepResult :=
  accept s (write8Effect o ovr value s)

/-- What `write16 operand, ovr, value` does in a ready block (44_operand_write.md R215 to R228). -/
def write16Effect (o : Operand) (ovr : SegOverride) (value : Word) (s : State) : State :=
  match o with
  | .register16 (.reg r) => { s with regs := s.regs.set r value }.respond (Response.okWrite none)
  | .register16 (.bad _) => fatalEntry .badRegister16 (encodeRequest (.write16 o ovr value)) s
  | .addressingMode m => atAddress m ovr (encodeRequest (.write16 o ovr value)) (memWrite16 value) s
  | .immediate8 _ | .immediate16 _ | .relative8 _ | .relative16 _ | .offset8 _ | .offset16 _ | .register8 _
  | .nearAddress _ | .farAddress _ _ | .noOperand | .invalidOperand => s.respond Response.notApplicable

/-- `write16 operand, ovr, value` (44_operand_write.md R215 to R228), accepted only while `HALTED = 0`. -/
def accessWrite16 (o : Operand) (ovr : SegOverride) (value : Word) (s : State) : StepResult :=
  accept s (write16Effect o ovr value s)

end Sys2Proof.Machine
end

