-- ==== Sys2Proof/Machine/Read16.lean ====
section
/-! DEFINITION. The meanings of the 38 `read16` instructions (43_operand_read.md R175), one definition each: the request handed to
the Operand Accessor's entry point `accessRead16`. -/

namespace Sys2Proof.Machine

/-- `read16.Immediate8`: R176. -/
def execRead16Immediate8 (v : Byte) (ovr : SegOverride) (s : State) : StepResult :=
  accessRead16 (.immediate8 v) ovr s

/-- `read16.Immediate16`: R177. -/
def execRead16Immediate16 (v : Word) (ovr : SegOverride) (s : State) : StepResult :=
  accessRead16 (.immediate16 v) ovr s

/-- `read16.Relative8`: R178. -/
def execRead16Relative8 (r : Byte) (ovr : SegOverride) (s : State) : StepResult :=
  accessRead16 (.relative8 r) ovr s

/-- `read16.Relative16`: R179. -/
def execRead16Relative16 (r : Word) (ovr : SegOverride) (s : State) : StepResult :=
  accessRead16 (.relative16 r) ovr s

/-- `read16.Offset8`: R180. -/
def execRead16Offset8 (o : Word) (ovr : SegOverride) (s : State) : StepResult :=
  accessRead16 (.offset8 o) ovr s

/-- `read16.Offset16`: R181. -/
def execRead16Offset16 (o : Word) (ovr : SegOverride) (s : State) : StepResult :=
  accessRead16 (.offset16 o) ovr s

/-- `read16.Register8`: R182. -/
def execRead16Register8 (id : Reg8) (ovr : SegOverride) (s : State) : StepResult :=
  accessRead16 (.register8 id) ovr s

/-- `read16.Register16`: R183. -/
def execRead16Register16 (id : Reg16Id) (ovr : SegOverride) (s : State) : StepResult :=
  accessRead16 (.register16 id) ovr s

/-- `read16.AddressingMode.BxSi`: R184, addressing mode BxSi (41_ea_calculator.md R114). -/
def execRead16BxSi (ovr : SegOverride) (s : State) : StepResult :=
  accessRead16 (.addressingMode (.plain .bxSi)) ovr s

/-- `read16.AddressingMode.BxDi`: R184, addressing mode BxDi (41_ea_calculator.md R115). -/
def execRead16BxDi (ovr : SegOverride) (s : State) : StepResult :=
  accessRead16 (.addressingMode (.plain .bxDi)) ovr s

/-- `read16.AddressingMode.BpSi`: R184, addressing mode BpSi (41_ea_calculator.md R116). -/
def execRead16BpSi (ovr : SegOverride) (s : State) : StepResult :=
  accessRead16 (.addressingMode (.plain .bpSi)) ovr s

/-- `read16.AddressingMode.BpDi`: R184, addressing mode BpDi (41_ea_calculator.md R117). -/
def execRead16BpDi (ovr : SegOverride) (s : State) : StepResult :=
  accessRead16 (.addressingMode (.plain .bpDi)) ovr s

/-- `read16.AddressingMode.Si`: R184, addressing mode Si (41_ea_calculator.md R118). -/
def execRead16Si (ovr : SegOverride) (s : State) : StepResult :=
  accessRead16 (.addressingMode (.plain .si)) ovr s

/-- `read16.AddressingMode.Di`: R184, addressing mode Di (41_ea_calculator.md R119). -/
def execRead16Di (ovr : SegOverride) (s : State) : StepResult :=
  accessRead16 (.addressingMode (.plain .di)) ovr s

/-- `read16.AddressingMode.Bp`: R184, addressing mode Bp (41_ea_calculator.md R120). -/
def execRead16Bp (ovr : SegOverride) (s : State) : StepResult :=
  accessRead16 (.addressingMode (.plain .bp)) ovr s

/-- `read16.AddressingMode.Bx`: R184, addressing mode Bx (41_ea_calculator.md R121). -/
def execRead16Bx (ovr : SegOverride) (s : State) : StepResult :=
  accessRead16 (.addressingMode (.plain .bx)) ovr s

/-- `read16.AddressingMode.BxSiDisp8`: R184, addressing mode BxSiDisp8 (41_ea_calculator.md R122). -/
def execRead16BxSiDisp8 (d : Byte) (ovr : SegOverride) (s : State) : StepResult :=
  accessRead16 (.addressingMode (.disp8 .bxSi d)) ovr s

/-- `read16.AddressingMode.BxDiDisp8`: R184, addressing mode BxDiDisp8 (41_ea_calculator.md R123). -/
def execRead16BxDiDisp8 (d : Byte) (ovr : SegOverride) (s : State) : StepResult :=
  accessRead16 (.addressingMode (.disp8 .bxDi d)) ovr s

/-- `read16.AddressingMode.BpSiDisp8`: R184, addressing mode BpSiDisp8 (41_ea_calculator.md R124). -/
def execRead16BpSiDisp8 (d : Byte) (ovr : SegOverride) (s : State) : StepResult :=
  accessRead16 (.addressingMode (.disp8 .bpSi d)) ovr s

/-- `read16.AddressingMode.BpDiDisp8`: R184, addressing mode BpDiDisp8 (41_ea_calculator.md R125). -/
def execRead16BpDiDisp8 (d : Byte) (ovr : SegOverride) (s : State) : StepResult :=
  accessRead16 (.addressingMode (.disp8 .bpDi d)) ovr s

/-- `read16.AddressingMode.SiDisp8`: R184, addressing mode SiDisp8 (41_ea_calculator.md R126). -/
def execRead16SiDisp8 (d : Byte) (ovr : SegOverride) (s : State) : StepResult :=
  accessRead16 (.addressingMode (.disp8 .si d)) ovr s

/-- `read16.AddressingMode.DiDisp8`: R184, addressing mode DiDisp8 (41_ea_calculator.md R127). -/
def execRead16DiDisp8 (d : Byte) (ovr : SegOverride) (s : State) : StepResult :=
  accessRead16 (.addressingMode (.disp8 .di d)) ovr s

/-- `read16.AddressingMode.BpDisp8`: R184, addressing mode BpDisp8 (41_ea_calculator.md R128). -/
def execRead16BpDisp8 (d : Byte) (ovr : SegOverride) (s : State) : StepResult :=
  accessRead16 (.addressingMode (.disp8 .bp d)) ovr s

/-- `read16.AddressingMode.BxDisp8`: R184, addressing mode BxDisp8 (41_ea_calculator.md R129). -/
def execRead16BxDisp8 (d : Byte) (ovr : SegOverride) (s : State) : StepResult :=
  accessRead16 (.addressingMode (.disp8 .bx d)) ovr s

/-- `read16.AddressingMode.BxSiDisp16`: R184, addressing mode BxSiDisp16 (41_ea_calculator.md R130). -/
def execRead16BxSiDisp16 (d : Word) (ovr : SegOverride) (s : State) : StepResult :=
  accessRead16 (.addressingMode (.disp16 .bxSi d)) ovr s

/-- `read16.AddressingMode.BxDiDisp16`: R184, addressing mode BxDiDisp16 (41_ea_calculator.md R131). -/
def execRead16BxDiDisp16 (d : Word) (ovr : SegOverride) (s : State) : StepResult :=
  accessRead16 (.addressingMode (.disp16 .bxDi d)) ovr s

/-- `read16.AddressingMode.BpSiDisp16`: R184, addressing mode BpSiDisp16 (41_ea_calculator.md R132). -/
def execRead16BpSiDisp16 (d : Word) (ovr : SegOverride) (s : State) : StepResult :=
  accessRead16 (.addressingMode (.disp16 .bpSi d)) ovr s

/-- `read16.AddressingMode.BpDiDisp16`: R184, addressing mode BpDiDisp16 (41_ea_calculator.md R133). -/
def execRead16BpDiDisp16 (d : Word) (ovr : SegOverride) (s : State) : StepResult :=
  accessRead16 (.addressingMode (.disp16 .bpDi d)) ovr s

/-- `read16.AddressingMode.SiDisp16`: R184, addressing mode SiDisp16 (41_ea_calculator.md R134). -/
def execRead16SiDisp16 (d : Word) (ovr : SegOverride) (s : State) : StepResult :=
  accessRead16 (.addressingMode (.disp16 .si d)) ovr s

/-- `read16.AddressingMode.DiDisp16`: R184, addressing mode DiDisp16 (41_ea_calculator.md R135). -/
def execRead16DiDisp16 (d : Word) (ovr : SegOverride) (s : State) : StepResult :=
  accessRead16 (.addressingMode (.disp16 .di d)) ovr s

/-- `read16.AddressingMode.BpDisp16`: R184, addressing mode BpDisp16 (41_ea_calculator.md R136). -/
def execRead16BpDisp16 (d : Word) (ovr : SegOverride) (s : State) : StepResult :=
  accessRead16 (.addressingMode (.disp16 .bp d)) ovr s

/-- `read16.AddressingMode.BxDisp16`: R184, addressing mode BxDisp16 (41_ea_calculator.md R137). -/
def execRead16BxDisp16 (d : Word) (ovr : SegOverride) (s : State) : StepResult :=
  accessRead16 (.addressingMode (.disp16 .bx d)) ovr s

/-- `read16.AddressingMode.Disp16`: R184, addressing mode Disp16 (41_ea_calculator.md R138). -/
def execRead16Disp16 (d : Word) (ovr : SegOverride) (s : State) : StepResult :=
  accessRead16 (.addressingMode (.direct d)) ovr s

/-- `read16.AddressingMode.RegisterMode`: R184, addressing mode RegisterMode (41_ea_calculator.md R139). -/
def execRead16RegisterMode (ovr : SegOverride) (s : State) : StepResult :=
  accessRead16 (.addressingMode .registerMode) ovr s

/-- `read16.NearAddress`: R185. -/
def execRead16NearAddress (a : Word) (ovr : SegOverride) (s : State) : StepResult :=
  accessRead16 (.nearAddress a) ovr s

/-- `read16.FarAddress`: R186. -/
def execRead16FarAddress (seg : Word) (off : Word) (ovr : SegOverride) (s : State) : StepResult :=
  accessRead16 (.farAddress seg off) ovr s

/-- `read16.NoOperand`: R187. -/
def execRead16NoOperand (ovr : SegOverride) (s : State) : StepResult :=
  accessRead16 .noOperand ovr s

/-- `read16.InvalidOperand`: R188. -/
def execRead16InvalidOperand (ovr : SegOverride) (s : State) : StepResult :=
  accessRead16 .invalidOperand ovr s

end Sys2Proof.Machine
end

