-- ==== Sys2Proof/Machine/Read8.lean ====
section
/-! DEFINITION. The meanings of the 38 `read8` instructions (43_operand_read.md R160), one definition each: the request handed to
the Operand Accessor's entry point `accessRead8`. -/

namespace Sys2Proof.Machine

/-- `read8.Immediate8`: R161. -/
def execRead8Immediate8 (v : Byte) (ovr : SegOverride) (s : State) : StepResult :=
  accessRead8 (.immediate8 v) ovr s

/-- `read8.Immediate16`: R162. -/
def execRead8Immediate16 (v : Word) (ovr : SegOverride) (s : State) : StepResult :=
  accessRead8 (.immediate16 v) ovr s

/-- `read8.Relative8`: R163. -/
def execRead8Relative8 (r : Byte) (ovr : SegOverride) (s : State) : StepResult :=
  accessRead8 (.relative8 r) ovr s

/-- `read8.Relative16`: R164. -/
def execRead8Relative16 (r : Word) (ovr : SegOverride) (s : State) : StepResult :=
  accessRead8 (.relative16 r) ovr s

/-- `read8.Offset8`: R165. -/
def execRead8Offset8 (o : Word) (ovr : SegOverride) (s : State) : StepResult :=
  accessRead8 (.offset8 o) ovr s

/-- `read8.Offset16`: R166. -/
def execRead8Offset16 (o : Word) (ovr : SegOverride) (s : State) : StepResult :=
  accessRead8 (.offset16 o) ovr s

/-- `read8.Register8`: R167. -/
def execRead8Register8 (id : Reg8) (ovr : SegOverride) (s : State) : StepResult :=
  accessRead8 (.register8 id) ovr s

/-- `read8.Register16`: R168. -/
def execRead8Register16 (id : Reg16Id) (ovr : SegOverride) (s : State) : StepResult :=
  accessRead8 (.register16 id) ovr s

/-- `read8.AddressingMode.BxSi`: R169, addressing mode BxSi (41_ea_calculator.md R114). -/
def execRead8BxSi (ovr : SegOverride) (s : State) : StepResult :=
  accessRead8 (.addressingMode (.plain .bxSi)) ovr s

/-- `read8.AddressingMode.BxDi`: R169, addressing mode BxDi (41_ea_calculator.md R115). -/
def execRead8BxDi (ovr : SegOverride) (s : State) : StepResult :=
  accessRead8 (.addressingMode (.plain .bxDi)) ovr s

/-- `read8.AddressingMode.BpSi`: R169, addressing mode BpSi (41_ea_calculator.md R116). -/
def execRead8BpSi (ovr : SegOverride) (s : State) : StepResult :=
  accessRead8 (.addressingMode (.plain .bpSi)) ovr s

/-- `read8.AddressingMode.BpDi`: R169, addressing mode BpDi (41_ea_calculator.md R117). -/
def execRead8BpDi (ovr : SegOverride) (s : State) : StepResult :=
  accessRead8 (.addressingMode (.plain .bpDi)) ovr s

/-- `read8.AddressingMode.Si`: R169, addressing mode Si (41_ea_calculator.md R118). -/
def execRead8Si (ovr : SegOverride) (s : State) : StepResult :=
  accessRead8 (.addressingMode (.plain .si)) ovr s

/-- `read8.AddressingMode.Di`: R169, addressing mode Di (41_ea_calculator.md R119). -/
def execRead8Di (ovr : SegOverride) (s : State) : StepResult :=
  accessRead8 (.addressingMode (.plain .di)) ovr s

/-- `read8.AddressingMode.Bp`: R169, addressing mode Bp (41_ea_calculator.md R120). -/
def execRead8Bp (ovr : SegOverride) (s : State) : StepResult :=
  accessRead8 (.addressingMode (.plain .bp)) ovr s

/-- `read8.AddressingMode.Bx`: R169, addressing mode Bx (41_ea_calculator.md R121). -/
def execRead8Bx (ovr : SegOverride) (s : State) : StepResult :=
  accessRead8 (.addressingMode (.plain .bx)) ovr s

/-- `read8.AddressingMode.BxSiDisp8`: R169, addressing mode BxSiDisp8 (41_ea_calculator.md R122). -/
def execRead8BxSiDisp8 (d : Byte) (ovr : SegOverride) (s : State) : StepResult :=
  accessRead8 (.addressingMode (.disp8 .bxSi d)) ovr s

/-- `read8.AddressingMode.BxDiDisp8`: R169, addressing mode BxDiDisp8 (41_ea_calculator.md R123). -/
def execRead8BxDiDisp8 (d : Byte) (ovr : SegOverride) (s : State) : StepResult :=
  accessRead8 (.addressingMode (.disp8 .bxDi d)) ovr s

/-- `read8.AddressingMode.BpSiDisp8`: R169, addressing mode BpSiDisp8 (41_ea_calculator.md R124). -/
def execRead8BpSiDisp8 (d : Byte) (ovr : SegOverride) (s : State) : StepResult :=
  accessRead8 (.addressingMode (.disp8 .bpSi d)) ovr s

/-- `read8.AddressingMode.BpDiDisp8`: R169, addressing mode BpDiDisp8 (41_ea_calculator.md R125). -/
def execRead8BpDiDisp8 (d : Byte) (ovr : SegOverride) (s : State) : StepResult :=
  accessRead8 (.addressingMode (.disp8 .bpDi d)) ovr s

/-- `read8.AddressingMode.SiDisp8`: R169, addressing mode SiDisp8 (41_ea_calculator.md R126). -/
def execRead8SiDisp8 (d : Byte) (ovr : SegOverride) (s : State) : StepResult :=
  accessRead8 (.addressingMode (.disp8 .si d)) ovr s

/-- `read8.AddressingMode.DiDisp8`: R169, addressing mode DiDisp8 (41_ea_calculator.md R127). -/
def execRead8DiDisp8 (d : Byte) (ovr : SegOverride) (s : State) : StepResult :=
  accessRead8 (.addressingMode (.disp8 .di d)) ovr s

/-- `read8.AddressingMode.BpDisp8`: R169, addressing mode BpDisp8 (41_ea_calculator.md R128). -/
def execRead8BpDisp8 (d : Byte) (ovr : SegOverride) (s : State) : StepResult :=
  accessRead8 (.addressingMode (.disp8 .bp d)) ovr s

/-- `read8.AddressingMode.BxDisp8`: R169, addressing mode BxDisp8 (41_ea_calculator.md R129). -/
def execRead8BxDisp8 (d : Byte) (ovr : SegOverride) (s : State) : StepResult :=
  accessRead8 (.addressingMode (.disp8 .bx d)) ovr s

/-- `read8.AddressingMode.BxSiDisp16`: R169, addressing mode BxSiDisp16 (41_ea_calculator.md R130). -/
def execRead8BxSiDisp16 (d : Word) (ovr : SegOverride) (s : State) : StepResult :=
  accessRead8 (.addressingMode (.disp16 .bxSi d)) ovr s

/-- `read8.AddressingMode.BxDiDisp16`: R169, addressing mode BxDiDisp16 (41_ea_calculator.md R131). -/
def execRead8BxDiDisp16 (d : Word) (ovr : SegOverride) (s : State) : StepResult :=
  accessRead8 (.addressingMode (.disp16 .bxDi d)) ovr s

/-- `read8.AddressingMode.BpSiDisp16`: R169, addressing mode BpSiDisp16 (41_ea_calculator.md R132). -/
def execRead8BpSiDisp16 (d : Word) (ovr : SegOverride) (s : State) : StepResult :=
  accessRead8 (.addressingMode (.disp16 .bpSi d)) ovr s

/-- `read8.AddressingMode.BpDiDisp16`: R169, addressing mode BpDiDisp16 (41_ea_calculator.md R133). -/
def execRead8BpDiDisp16 (d : Word) (ovr : SegOverride) (s : State) : StepResult :=
  accessRead8 (.addressingMode (.disp16 .bpDi d)) ovr s

/-- `read8.AddressingMode.SiDisp16`: R169, addressing mode SiDisp16 (41_ea_calculator.md R134). -/
def execRead8SiDisp16 (d : Word) (ovr : SegOverride) (s : State) : StepResult :=
  accessRead8 (.addressingMode (.disp16 .si d)) ovr s

/-- `read8.AddressingMode.DiDisp16`: R169, addressing mode DiDisp16 (41_ea_calculator.md R135). -/
def execRead8DiDisp16 (d : Word) (ovr : SegOverride) (s : State) : StepResult :=
  accessRead8 (.addressingMode (.disp16 .di d)) ovr s

/-- `read8.AddressingMode.BpDisp16`: R169, addressing mode BpDisp16 (41_ea_calculator.md R136). -/
def execRead8BpDisp16 (d : Word) (ovr : SegOverride) (s : State) : StepResult :=
  accessRead8 (.addressingMode (.disp16 .bp d)) ovr s

/-- `read8.AddressingMode.BxDisp16`: R169, addressing mode BxDisp16 (41_ea_calculator.md R137). -/
def execRead8BxDisp16 (d : Word) (ovr : SegOverride) (s : State) : StepResult :=
  accessRead8 (.addressingMode (.disp16 .bx d)) ovr s

/-- `read8.AddressingMode.Disp16`: R169, addressing mode Disp16 (41_ea_calculator.md R138). -/
def execRead8Disp16 (d : Word) (ovr : SegOverride) (s : State) : StepResult :=
  accessRead8 (.addressingMode (.direct d)) ovr s

/-- `read8.AddressingMode.RegisterMode`: R169, addressing mode RegisterMode (41_ea_calculator.md R139). -/
def execRead8RegisterMode (ovr : SegOverride) (s : State) : StepResult :=
  accessRead8 (.addressingMode .registerMode) ovr s

/-- `read8.NearAddress`: R170. -/
def execRead8NearAddress (a : Word) (ovr : SegOverride) (s : State) : StepResult :=
  accessRead8 (.nearAddress a) ovr s

/-- `read8.FarAddress`: R171. -/
def execRead8FarAddress (seg : Word) (off : Word) (ovr : SegOverride) (s : State) : StepResult :=
  accessRead8 (.farAddress seg off) ovr s

/-- `read8.NoOperand`: R172. -/
def execRead8NoOperand (ovr : SegOverride) (s : State) : StepResult :=
  accessRead8 .noOperand ovr s

/-- `read8.InvalidOperand`: R173. -/
def execRead8InvalidOperand (ovr : SegOverride) (s : State) : StepResult :=
  accessRead8 .invalidOperand ovr s

end Sys2Proof.Machine
end

