-- ==== Sys2Proof/Machine/Write16.lean ====
section
/-! DEFINITION. The meanings of the 38 `write16` instructions (44_operand_write.md R215), one definition each: the request handed to
the Operand Accessor's entry point `accessWrite16`. -/

namespace Sys2Proof.Machine

/-- `write16.Immediate8`: R216. -/
def execWrite16Immediate8 (v : Byte) (ovr : SegOverride) (value : Word) (s : State) : StepResult :=
  accessWrite16 (.immediate8 v) ovr value s

/-- `write16.Immediate16`: R217. -/
def execWrite16Immediate16 (v : Word) (ovr : SegOverride) (value : Word) (s : State) : StepResult :=
  accessWrite16 (.immediate16 v) ovr value s

/-- `write16.Relative8`: R218. -/
def execWrite16Relative8 (r : Byte) (ovr : SegOverride) (value : Word) (s : State) : StepResult :=
  accessWrite16 (.relative8 r) ovr value s

/-- `write16.Relative16`: R219. -/
def execWrite16Relative16 (r : Word) (ovr : SegOverride) (value : Word) (s : State) : StepResult :=
  accessWrite16 (.relative16 r) ovr value s

/-- `write16.Offset8`: R220. -/
def execWrite16Offset8 (o : Word) (ovr : SegOverride) (value : Word) (s : State) : StepResult :=
  accessWrite16 (.offset8 o) ovr value s

/-- `write16.Offset16`: R221. -/
def execWrite16Offset16 (o : Word) (ovr : SegOverride) (value : Word) (s : State) : StepResult :=
  accessWrite16 (.offset16 o) ovr value s

/-- `write16.Register8`: R222. -/
def execWrite16Register8 (id : Reg8) (ovr : SegOverride) (value : Word) (s : State) : StepResult :=
  accessWrite16 (.register8 id) ovr value s

/-- `write16.Register16`: R223. -/
def execWrite16Register16 (id : Reg16Id) (ovr : SegOverride) (value : Word) (s : State) : StepResult :=
  accessWrite16 (.register16 id) ovr value s

/-- `write16.AddressingMode.BxSi`: R224, addressing mode BxSi (41_ea_calculator.md R114). -/
def execWrite16BxSi (ovr : SegOverride) (value : Word) (s : State) : StepResult :=
  accessWrite16 (.addressingMode (.plain .bxSi)) ovr value s

/-- `write16.AddressingMode.BxDi`: R224, addressing mode BxDi (41_ea_calculator.md R115). -/
def execWrite16BxDi (ovr : SegOverride) (value : Word) (s : State) : StepResult :=
  accessWrite16 (.addressingMode (.plain .bxDi)) ovr value s

/-- `write16.AddressingMode.BpSi`: R224, addressing mode BpSi (41_ea_calculator.md R116). -/
def execWrite16BpSi (ovr : SegOverride) (value : Word) (s : State) : StepResult :=
  accessWrite16 (.addressingMode (.plain .bpSi)) ovr value s

/-- `write16.AddressingMode.BpDi`: R224, addressing mode BpDi (41_ea_calculator.md R117). -/
def execWrite16BpDi (ovr : SegOverride) (value : Word) (s : State) : StepResult :=
  accessWrite16 (.addressingMode (.plain .bpDi)) ovr value s

/-- `write16.AddressingMode.Si`: R224, addressing mode Si (41_ea_calculator.md R118). -/
def execWrite16Si (ovr : SegOverride) (value : Word) (s : State) : StepResult :=
  accessWrite16 (.addressingMode (.plain .si)) ovr value s

/-- `write16.AddressingMode.Di`: R224, addressing mode Di (41_ea_calculator.md R119). -/
def execWrite16Di (ovr : SegOverride) (value : Word) (s : State) : StepResult :=
  accessWrite16 (.addressingMode (.plain .di)) ovr value s

/-- `write16.AddressingMode.Bp`: R224, addressing mode Bp (41_ea_calculator.md R120). -/
def execWrite16Bp (ovr : SegOverride) (value : Word) (s : State) : StepResult :=
  accessWrite16 (.addressingMode (.plain .bp)) ovr value s

/-- `write16.AddressingMode.Bx`: R224, addressing mode Bx (41_ea_calculator.md R121). -/
def execWrite16Bx (ovr : SegOverride) (value : Word) (s : State) : StepResult :=
  accessWrite16 (.addressingMode (.plain .bx)) ovr value s

/-- `write16.AddressingMode.BxSiDisp8`: R224, addressing mode BxSiDisp8 (41_ea_calculator.md R122). -/
def execWrite16BxSiDisp8 (d : Byte) (ovr : SegOverride) (value : Word) (s : State) : StepResult :=
  accessWrite16 (.addressingMode (.disp8 .bxSi d)) ovr value s

/-- `write16.AddressingMode.BxDiDisp8`: R224, addressing mode BxDiDisp8 (41_ea_calculator.md R123). -/
def execWrite16BxDiDisp8 (d : Byte) (ovr : SegOverride) (value : Word) (s : State) : StepResult :=
  accessWrite16 (.addressingMode (.disp8 .bxDi d)) ovr value s

/-- `write16.AddressingMode.BpSiDisp8`: R224, addressing mode BpSiDisp8 (41_ea_calculator.md R124). -/
def execWrite16BpSiDisp8 (d : Byte) (ovr : SegOverride) (value : Word) (s : State) : StepResult :=
  accessWrite16 (.addressingMode (.disp8 .bpSi d)) ovr value s

/-- `write16.AddressingMode.BpDiDisp8`: R224, addressing mode BpDiDisp8 (41_ea_calculator.md R125). -/
def execWrite16BpDiDisp8 (d : Byte) (ovr : SegOverride) (value : Word) (s : State) : StepResult :=
  accessWrite16 (.addressingMode (.disp8 .bpDi d)) ovr value s

/-- `write16.AddressingMode.SiDisp8`: R224, addressing mode SiDisp8 (41_ea_calculator.md R126). -/
def execWrite16SiDisp8 (d : Byte) (ovr : SegOverride) (value : Word) (s : State) : StepResult :=
  accessWrite16 (.addressingMode (.disp8 .si d)) ovr value s

/-- `write16.AddressingMode.DiDisp8`: R224, addressing mode DiDisp8 (41_ea_calculator.md R127). -/
def execWrite16DiDisp8 (d : Byte) (ovr : SegOverride) (value : Word) (s : State) : StepResult :=
  accessWrite16 (.addressingMode (.disp8 .di d)) ovr value s

/-- `write16.AddressingMode.BpDisp8`: R224, addressing mode BpDisp8 (41_ea_calculator.md R128). -/
def execWrite16BpDisp8 (d : Byte) (ovr : SegOverride) (value : Word) (s : State) : StepResult :=
  accessWrite16 (.addressingMode (.disp8 .bp d)) ovr value s

/-- `write16.AddressingMode.BxDisp8`: R224, addressing mode BxDisp8 (41_ea_calculator.md R129). -/
def execWrite16BxDisp8 (d : Byte) (ovr : SegOverride) (value : Word) (s : State) : StepResult :=
  accessWrite16 (.addressingMode (.disp8 .bx d)) ovr value s

/-- `write16.AddressingMode.BxSiDisp16`: R224, addressing mode BxSiDisp16 (41_ea_calculator.md R130). -/
def execWrite16BxSiDisp16 (d : Word) (ovr : SegOverride) (value : Word) (s : State) : StepResult :=
  accessWrite16 (.addressingMode (.disp16 .bxSi d)) ovr value s

/-- `write16.AddressingMode.BxDiDisp16`: R224, addressing mode BxDiDisp16 (41_ea_calculator.md R131). -/
def execWrite16BxDiDisp16 (d : Word) (ovr : SegOverride) (value : Word) (s : State) : StepResult :=
  accessWrite16 (.addressingMode (.disp16 .bxDi d)) ovr value s

/-- `write16.AddressingMode.BpSiDisp16`: R224, addressing mode BpSiDisp16 (41_ea_calculator.md R132). -/
def execWrite16BpSiDisp16 (d : Word) (ovr : SegOverride) (value : Word) (s : State) : StepResult :=
  accessWrite16 (.addressingMode (.disp16 .bpSi d)) ovr value s

/-- `write16.AddressingMode.BpDiDisp16`: R224, addressing mode BpDiDisp16 (41_ea_calculator.md R133). -/
def execWrite16BpDiDisp16 (d : Word) (ovr : SegOverride) (value : Word) (s : State) : StepResult :=
  accessWrite16 (.addressingMode (.disp16 .bpDi d)) ovr value s

/-- `write16.AddressingMode.SiDisp16`: R224, addressing mode SiDisp16 (41_ea_calculator.md R134). -/
def execWrite16SiDisp16 (d : Word) (ovr : SegOverride) (value : Word) (s : State) : StepResult :=
  accessWrite16 (.addressingMode (.disp16 .si d)) ovr value s

/-- `write16.AddressingMode.DiDisp16`: R224, addressing mode DiDisp16 (41_ea_calculator.md R135). -/
def execWrite16DiDisp16 (d : Word) (ovr : SegOverride) (value : Word) (s : State) : StepResult :=
  accessWrite16 (.addressingMode (.disp16 .di d)) ovr value s

/-- `write16.AddressingMode.BpDisp16`: R224, addressing mode BpDisp16 (41_ea_calculator.md R136). -/
def execWrite16BpDisp16 (d : Word) (ovr : SegOverride) (value : Word) (s : State) : StepResult :=
  accessWrite16 (.addressingMode (.disp16 .bp d)) ovr value s

/-- `write16.AddressingMode.BxDisp16`: R224, addressing mode BxDisp16 (41_ea_calculator.md R137). -/
def execWrite16BxDisp16 (d : Word) (ovr : SegOverride) (value : Word) (s : State) : StepResult :=
  accessWrite16 (.addressingMode (.disp16 .bx d)) ovr value s

/-- `write16.AddressingMode.Disp16`: R224, addressing mode Disp16 (41_ea_calculator.md R138). -/
def execWrite16Disp16 (d : Word) (ovr : SegOverride) (value : Word) (s : State) : StepResult :=
  accessWrite16 (.addressingMode (.direct d)) ovr value s

/-- `write16.AddressingMode.RegisterMode`: R224, addressing mode RegisterMode (41_ea_calculator.md R139). -/
def execWrite16RegisterMode (ovr : SegOverride) (value : Word) (s : State) : StepResult :=
  accessWrite16 (.addressingMode .registerMode) ovr value s

/-- `write16.NearAddress`: R225. -/
def execWrite16NearAddress (a : Word) (ovr : SegOverride) (value : Word) (s : State) : StepResult :=
  accessWrite16 (.nearAddress a) ovr value s

/-- `write16.FarAddress`: R226. -/
def execWrite16FarAddress (seg : Word) (off : Word) (ovr : SegOverride) (value : Word) (s : State) : StepResult :=
  accessWrite16 (.farAddress seg off) ovr value s

/-- `write16.NoOperand`: R227. -/
def execWrite16NoOperand (ovr : SegOverride) (value : Word) (s : State) : StepResult :=
  accessWrite16 .noOperand ovr value s

/-- `write16.InvalidOperand`: R228. -/
def execWrite16InvalidOperand (ovr : SegOverride) (value : Word) (s : State) : StepResult :=
  accessWrite16 .invalidOperand ovr value s

end Sys2Proof.Machine
end

