-- ==== Sys2Proof/Machine/Write8.lean ====
section
/-! DEFINITION. The meanings of the 38 `write8` instructions (44_operand_write.md R200), one definition each: the request handed to
the Operand Accessor's entry point `accessWrite8`. -/

namespace Sys2Proof.Machine

/-- `write8.Immediate8`: R201. -/
def execWrite8Immediate8 (v : Byte) (ovr : SegOverride) (value : Byte) (s : State) : StepResult :=
  accessWrite8 (.immediate8 v) ovr value s

/-- `write8.Immediate16`: R202. -/
def execWrite8Immediate16 (v : Word) (ovr : SegOverride) (value : Byte) (s : State) : StepResult :=
  accessWrite8 (.immediate16 v) ovr value s

/-- `write8.Relative8`: R203. -/
def execWrite8Relative8 (r : Byte) (ovr : SegOverride) (value : Byte) (s : State) : StepResult :=
  accessWrite8 (.relative8 r) ovr value s

/-- `write8.Relative16`: R204. -/
def execWrite8Relative16 (r : Word) (ovr : SegOverride) (value : Byte) (s : State) : StepResult :=
  accessWrite8 (.relative16 r) ovr value s

/-- `write8.Offset8`: R205. -/
def execWrite8Offset8 (o : Word) (ovr : SegOverride) (value : Byte) (s : State) : StepResult :=
  accessWrite8 (.offset8 o) ovr value s

/-- `write8.Offset16`: R206. -/
def execWrite8Offset16 (o : Word) (ovr : SegOverride) (value : Byte) (s : State) : StepResult :=
  accessWrite8 (.offset16 o) ovr value s

/-- `write8.Register8`: R207. -/
def execWrite8Register8 (id : Reg8) (ovr : SegOverride) (value : Byte) (s : State) : StepResult :=
  accessWrite8 (.register8 id) ovr value s

/-- `write8.Register16`: R208. -/
def execWrite8Register16 (id : Reg16Id) (ovr : SegOverride) (value : Byte) (s : State) : StepResult :=
  accessWrite8 (.register16 id) ovr value s

/-- `write8.AddressingMode.BxSi`: R209, addressing mode BxSi (41_ea_calculator.md R114). -/
def execWrite8BxSi (ovr : SegOverride) (value : Byte) (s : State) : StepResult :=
  accessWrite8 (.addressingMode (.plain .bxSi)) ovr value s

/-- `write8.AddressingMode.BxDi`: R209, addressing mode BxDi (41_ea_calculator.md R115). -/
def execWrite8BxDi (ovr : SegOverride) (value : Byte) (s : State) : StepResult :=
  accessWrite8 (.addressingMode (.plain .bxDi)) ovr value s

/-- `write8.AddressingMode.BpSi`: R209, addressing mode BpSi (41_ea_calculator.md R116). -/
def execWrite8BpSi (ovr : SegOverride) (value : Byte) (s : State) : StepResult :=
  accessWrite8 (.addressingMode (.plain .bpSi)) ovr value s

/-- `write8.AddressingMode.BpDi`: R209, addressing mode BpDi (41_ea_calculator.md R117). -/
def execWrite8BpDi (ovr : SegOverride) (value : Byte) (s : State) : StepResult :=
  accessWrite8 (.addressingMode (.plain .bpDi)) ovr value s

/-- `write8.AddressingMode.Si`: R209, addressing mode Si (41_ea_calculator.md R118). -/
def execWrite8Si (ovr : SegOverride) (value : Byte) (s : State) : StepResult :=
  accessWrite8 (.addressingMode (.plain .si)) ovr value s

/-- `write8.AddressingMode.Di`: R209, addressing mode Di (41_ea_calculator.md R119). -/
def execWrite8Di (ovr : SegOverride) (value : Byte) (s : State) : StepResult :=
  accessWrite8 (.addressingMode (.plain .di)) ovr value s

/-- `write8.AddressingMode.Bp`: R209, addressing mode Bp (41_ea_calculator.md R120). -/
def execWrite8Bp (ovr : SegOverride) (value : Byte) (s : State) : StepResult :=
  accessWrite8 (.addressingMode (.plain .bp)) ovr value s

/-- `write8.AddressingMode.Bx`: R209, addressing mode Bx (41_ea_calculator.md R121). -/
def execWrite8Bx (ovr : SegOverride) (value : Byte) (s : State) : StepResult :=
  accessWrite8 (.addressingMode (.plain .bx)) ovr value s

/-- `write8.AddressingMode.BxSiDisp8`: R209, addressing mode BxSiDisp8 (41_ea_calculator.md R122). -/
def execWrite8BxSiDisp8 (d : Byte) (ovr : SegOverride) (value : Byte) (s : State) : StepResult :=
  accessWrite8 (.addressingMode (.disp8 .bxSi d)) ovr value s

/-- `write8.AddressingMode.BxDiDisp8`: R209, addressing mode BxDiDisp8 (41_ea_calculator.md R123). -/
def execWrite8BxDiDisp8 (d : Byte) (ovr : SegOverride) (value : Byte) (s : State) : StepResult :=
  accessWrite8 (.addressingMode (.disp8 .bxDi d)) ovr value s

/-- `write8.AddressingMode.BpSiDisp8`: R209, addressing mode BpSiDisp8 (41_ea_calculator.md R124). -/
def execWrite8BpSiDisp8 (d : Byte) (ovr : SegOverride) (value : Byte) (s : State) : StepResult :=
  accessWrite8 (.addressingMode (.disp8 .bpSi d)) ovr value s

/-- `write8.AddressingMode.BpDiDisp8`: R209, addressing mode BpDiDisp8 (41_ea_calculator.md R125). -/
def execWrite8BpDiDisp8 (d : Byte) (ovr : SegOverride) (value : Byte) (s : State) : StepResult :=
  accessWrite8 (.addressingMode (.disp8 .bpDi d)) ovr value s

/-- `write8.AddressingMode.SiDisp8`: R209, addressing mode SiDisp8 (41_ea_calculator.md R126). -/
def execWrite8SiDisp8 (d : Byte) (ovr : SegOverride) (value : Byte) (s : State) : StepResult :=
  accessWrite8 (.addressingMode (.disp8 .si d)) ovr value s

/-- `write8.AddressingMode.DiDisp8`: R209, addressing mode DiDisp8 (41_ea_calculator.md R127). -/
def execWrite8DiDisp8 (d : Byte) (ovr : SegOverride) (value : Byte) (s : State) : StepResult :=
  accessWrite8 (.addressingMode (.disp8 .di d)) ovr value s

/-- `write8.AddressingMode.BpDisp8`: R209, addressing mode BpDisp8 (41_ea_calculator.md R128). -/
def execWrite8BpDisp8 (d : Byte) (ovr : SegOverride) (value : Byte) (s : State) : StepResult :=
  accessWrite8 (.addressingMode (.disp8 .bp d)) ovr value s

/-- `write8.AddressingMode.BxDisp8`: R209, addressing mode BxDisp8 (41_ea_calculator.md R129). -/
def execWrite8BxDisp8 (d : Byte) (ovr : SegOverride) (value : Byte) (s : State) : StepResult :=
  accessWrite8 (.addressingMode (.disp8 .bx d)) ovr value s

/-- `write8.AddressingMode.BxSiDisp16`: R209, addressing mode BxSiDisp16 (41_ea_calculator.md R130). -/
def execWrite8BxSiDisp16 (d : Word) (ovr : SegOverride) (value : Byte) (s : State) : StepResult :=
  accessWrite8 (.addressingMode (.disp16 .bxSi d)) ovr value s

/-- `write8.AddressingMode.BxDiDisp16`: R209, addressing mode BxDiDisp16 (41_ea_calculator.md R131). -/
def execWrite8BxDiDisp16 (d : Word) (ovr : SegOverride) (value : Byte) (s : State) : StepResult :=
  accessWrite8 (.addressingMode (.disp16 .bxDi d)) ovr value s

/-- `write8.AddressingMode.BpSiDisp16`: R209, addressing mode BpSiDisp16 (41_ea_calculator.md R132). -/
def execWrite8BpSiDisp16 (d : Word) (ovr : SegOverride) (value : Byte) (s : State) : StepResult :=
  accessWrite8 (.addressingMode (.disp16 .bpSi d)) ovr value s

/-- `write8.AddressingMode.BpDiDisp16`: R209, addressing mode BpDiDisp16 (41_ea_calculator.md R133). -/
def execWrite8BpDiDisp16 (d : Word) (ovr : SegOverride) (value : Byte) (s : State) : StepResult :=
  accessWrite8 (.addressingMode (.disp16 .bpDi d)) ovr value s

/-- `write8.AddressingMode.SiDisp16`: R209, addressing mode SiDisp16 (41_ea_calculator.md R134). -/
def execWrite8SiDisp16 (d : Word) (ovr : SegOverride) (value : Byte) (s : State) : StepResult :=
  accessWrite8 (.addressingMode (.disp16 .si d)) ovr value s

/-- `write8.AddressingMode.DiDisp16`: R209, addressing mode DiDisp16 (41_ea_calculator.md R135). -/
def execWrite8DiDisp16 (d : Word) (ovr : SegOverride) (value : Byte) (s : State) : StepResult :=
  accessWrite8 (.addressingMode (.disp16 .di d)) ovr value s

/-- `write8.AddressingMode.BpDisp16`: R209, addressing mode BpDisp16 (41_ea_calculator.md R136). -/
def execWrite8BpDisp16 (d : Word) (ovr : SegOverride) (value : Byte) (s : State) : StepResult :=
  accessWrite8 (.addressingMode (.disp16 .bp d)) ovr value s

/-- `write8.AddressingMode.BxDisp16`: R209, addressing mode BxDisp16 (41_ea_calculator.md R137). -/
def execWrite8BxDisp16 (d : Word) (ovr : SegOverride) (value : Byte) (s : State) : StepResult :=
  accessWrite8 (.addressingMode (.disp16 .bx d)) ovr value s

/-- `write8.AddressingMode.Disp16`: R209, addressing mode Disp16 (41_ea_calculator.md R138). -/
def execWrite8Disp16 (d : Word) (ovr : SegOverride) (value : Byte) (s : State) : StepResult :=
  accessWrite8 (.addressingMode (.direct d)) ovr value s

/-- `write8.AddressingMode.RegisterMode`: R209, addressing mode RegisterMode (41_ea_calculator.md R139). -/
def execWrite8RegisterMode (ovr : SegOverride) (value : Byte) (s : State) : StepResult :=
  accessWrite8 (.addressingMode .registerMode) ovr value s

/-- `write8.NearAddress`: R210. -/
def execWrite8NearAddress (a : Word) (ovr : SegOverride) (value : Byte) (s : State) : StepResult :=
  accessWrite8 (.nearAddress a) ovr value s

/-- `write8.FarAddress`: R211. -/
def execWrite8FarAddress (seg : Word) (off : Word) (ovr : SegOverride) (value : Byte) (s : State) : StepResult :=
  accessWrite8 (.farAddress seg off) ovr value s

/-- `write8.NoOperand`: R212. -/
def execWrite8NoOperand (ovr : SegOverride) (value : Byte) (s : State) : StepResult :=
  accessWrite8 .noOperand ovr value s

/-- `write8.InvalidOperand`: R213. -/
def execWrite8InvalidOperand (ovr : SegOverride) (value : Byte) (s : State) : StepResult :=
  accessWrite8 .invalidOperand ovr value s

end Sys2Proof.Machine
end

