-- ==== Sys2Proof/Machine/Dispatch.lean ====
section
/-! DEFINITION. `exec`: one arm per constructor of `Instr`, each one call of that instruction's meaning. -/

namespace Sys2Proof.Machine

/-- What an accepted request does (60_exceptions.md R240). -/
def exec (i : Instr) (s : State) : Host.Outcome State Fault Refusal :=
  match i with
  | .read8Immediate8 v ovr => Sys2Proof.Machine.execRead8Immediate8 v ovr s
  | .read8Immediate16 v ovr => Sys2Proof.Machine.execRead8Immediate16 v ovr s
  | .read8Relative8 r ovr => Sys2Proof.Machine.execRead8Relative8 r ovr s
  | .read8Relative16 r ovr => Sys2Proof.Machine.execRead8Relative16 r ovr s
  | .read8Offset8 o ovr => Sys2Proof.Machine.execRead8Offset8 o ovr s
  | .read8Offset16 o ovr => Sys2Proof.Machine.execRead8Offset16 o ovr s
  | .read8Register8 id ovr => Sys2Proof.Machine.execRead8Register8 id ovr s
  | .read8Register16 id ovr => Sys2Proof.Machine.execRead8Register16 id ovr s
  | .read8BxSi ovr => Sys2Proof.Machine.execRead8BxSi ovr s
  | .read8BxDi ovr => Sys2Proof.Machine.execRead8BxDi ovr s
  | .read8BpSi ovr => Sys2Proof.Machine.execRead8BpSi ovr s
  | .read8BpDi ovr => Sys2Proof.Machine.execRead8BpDi ovr s
  | .read8Si ovr => Sys2Proof.Machine.execRead8Si ovr s
  | .read8Di ovr => Sys2Proof.Machine.execRead8Di ovr s
  | .read8Bp ovr => Sys2Proof.Machine.execRead8Bp ovr s
  | .read8Bx ovr => Sys2Proof.Machine.execRead8Bx ovr s
  | .read8BxSiDisp8 d ovr => Sys2Proof.Machine.execRead8BxSiDisp8 d ovr s
  | .read8BxDiDisp8 d ovr => Sys2Proof.Machine.execRead8BxDiDisp8 d ovr s
  | .read8BpSiDisp8 d ovr => Sys2Proof.Machine.execRead8BpSiDisp8 d ovr s
  | .read8BpDiDisp8 d ovr => Sys2Proof.Machine.execRead8BpDiDisp8 d ovr s
  | .read8SiDisp8 d ovr => Sys2Proof.Machine.execRead8SiDisp8 d ovr s
  | .read8DiDisp8 d ovr => Sys2Proof.Machine.execRead8DiDisp8 d ovr s
  | .read8BpDisp8 d ovr => Sys2Proof.Machine.execRead8BpDisp8 d ovr s
  | .read8BxDisp8 d ovr => Sys2Proof.Machine.execRead8BxDisp8 d ovr s
  | .read8BxSiDisp16 d ovr => Sys2Proof.Machine.execRead8BxSiDisp16 d ovr s
  | .read8BxDiDisp16 d ovr => Sys2Proof.Machine.execRead8BxDiDisp16 d ovr s
  | .read8BpSiDisp16 d ovr => Sys2Proof.Machine.execRead8BpSiDisp16 d ovr s
  | .read8BpDiDisp16 d ovr => Sys2Proof.Machine.execRead8BpDiDisp16 d ovr s
  | .read8SiDisp16 d ovr => Sys2Proof.Machine.execRead8SiDisp16 d ovr s
  | .read8DiDisp16 d ovr => Sys2Proof.Machine.execRead8DiDisp16 d ovr s
  | .read8BpDisp16 d ovr => Sys2Proof.Machine.execRead8BpDisp16 d ovr s
  | .read8BxDisp16 d ovr => Sys2Proof.Machine.execRead8BxDisp16 d ovr s
  | .read8Disp16 d ovr => Sys2Proof.Machine.execRead8Disp16 d ovr s
  | .read8RegisterMode ovr => Sys2Proof.Machine.execRead8RegisterMode ovr s
  | .read8NearAddress a ovr => Sys2Proof.Machine.execRead8NearAddress a ovr s
  | .read8FarAddress seg off ovr => Sys2Proof.Machine.execRead8FarAddress seg off ovr s
  | .read8NoOperand ovr => Sys2Proof.Machine.execRead8NoOperand ovr s
  | .read8InvalidOperand ovr => Sys2Proof.Machine.execRead8InvalidOperand ovr s
  | .read16Immediate8 v ovr => Sys2Proof.Machine.execRead16Immediate8 v ovr s
  | .read16Immediate16 v ovr => Sys2Proof.Machine.execRead16Immediate16 v ovr s
  | .read16Relative8 r ovr => Sys2Proof.Machine.execRead16Relative8 r ovr s
  | .read16Relative16 r ovr => Sys2Proof.Machine.execRead16Relative16 r ovr s
  | .read16Offset8 o ovr => Sys2Proof.Machine.execRead16Offset8 o ovr s
  | .read16Offset16 o ovr => Sys2Proof.Machine.execRead16Offset16 o ovr s
  | .read16Register8 id ovr => Sys2Proof.Machine.execRead16Register8 id ovr s
  | .read16Register16 id ovr => Sys2Proof.Machine.execRead16Register16 id ovr s
  | .read16BxSi ovr => Sys2Proof.Machine.execRead16BxSi ovr s
  | .read16BxDi ovr => Sys2Proof.Machine.execRead16BxDi ovr s
  | .read16BpSi ovr => Sys2Proof.Machine.execRead16BpSi ovr s
  | .read16BpDi ovr => Sys2Proof.Machine.execRead16BpDi ovr s
  | .read16Si ovr => Sys2Proof.Machine.execRead16Si ovr s
  | .read16Di ovr => Sys2Proof.Machine.execRead16Di ovr s
  | .read16Bp ovr => Sys2Proof.Machine.execRead16Bp ovr s
  | .read16Bx ovr => Sys2Proof.Machine.execRead16Bx ovr s
  | .read16BxSiDisp8 d ovr => Sys2Proof.Machine.execRead16BxSiDisp8 d ovr s
  | .read16BxDiDisp8 d ovr => Sys2Proof.Machine.execRead16BxDiDisp8 d ovr s
  | .read16BpSiDisp8 d ovr => Sys2Proof.Machine.execRead16BpSiDisp8 d ovr s
  | .read16BpDiDisp8 d ovr => Sys2Proof.Machine.execRead16BpDiDisp8 d ovr s
  | .read16SiDisp8 d ovr => Sys2Proof.Machine.execRead16SiDisp8 d ovr s
  | .read16DiDisp8 d ovr => Sys2Proof.Machine.execRead16DiDisp8 d ovr s
  | .read16BpDisp8 d ovr => Sys2Proof.Machine.execRead16BpDisp8 d ovr s
  | .read16BxDisp8 d ovr => Sys2Proof.Machine.execRead16BxDisp8 d ovr s
  | .read16BxSiDisp16 d ovr => Sys2Proof.Machine.execRead16BxSiDisp16 d ovr s
  | .read16BxDiDisp16 d ovr => Sys2Proof.Machine.execRead16BxDiDisp16 d ovr s
  | .read16BpSiDisp16 d ovr => Sys2Proof.Machine.execRead16BpSiDisp16 d ovr s
  | .read16BpDiDisp16 d ovr => Sys2Proof.Machine.execRead16BpDiDisp16 d ovr s
  | .read16SiDisp16 d ovr => Sys2Proof.Machine.execRead16SiDisp16 d ovr s
  | .read16DiDisp16 d ovr => Sys2Proof.Machine.execRead16DiDisp16 d ovr s
  | .read16BpDisp16 d ovr => Sys2Proof.Machine.execRead16BpDisp16 d ovr s
  | .read16BxDisp16 d ovr => Sys2Proof.Machine.execRead16BxDisp16 d ovr s
  | .read16Disp16 d ovr => Sys2Proof.Machine.execRead16Disp16 d ovr s
  | .read16RegisterMode ovr => Sys2Proof.Machine.execRead16RegisterMode ovr s
  | .read16NearAddress a ovr => Sys2Proof.Machine.execRead16NearAddress a ovr s
  | .read16FarAddress seg off ovr => Sys2Proof.Machine.execRead16FarAddress seg off ovr s
  | .read16NoOperand ovr => Sys2Proof.Machine.execRead16NoOperand ovr s
  | .read16InvalidOperand ovr => Sys2Proof.Machine.execRead16InvalidOperand ovr s
  | .write8Immediate8 v ovr value => Sys2Proof.Machine.execWrite8Immediate8 v ovr value s
  | .write8Immediate16 v ovr value => Sys2Proof.Machine.execWrite8Immediate16 v ovr value s
  | .write8Relative8 r ovr value => Sys2Proof.Machine.execWrite8Relative8 r ovr value s
  | .write8Relative16 r ovr value => Sys2Proof.Machine.execWrite8Relative16 r ovr value s
  | .write8Offset8 o ovr value => Sys2Proof.Machine.execWrite8Offset8 o ovr value s
  | .write8Offset16 o ovr value => Sys2Proof.Machine.execWrite8Offset16 o ovr value s
  | .write8Register8 id ovr value => Sys2Proof.Machine.execWrite8Register8 id ovr value s
  | .write8Register16 id ovr value => Sys2Proof.Machine.execWrite8Register16 id ovr value s
  | .write8BxSi ovr value => Sys2Proof.Machine.execWrite8BxSi ovr value s
  | .write8BxDi ovr value => Sys2Proof.Machine.execWrite8BxDi ovr value s
  | .write8BpSi ovr value => Sys2Proof.Machine.execWrite8BpSi ovr value s
  | .write8BpDi ovr value => Sys2Proof.Machine.execWrite8BpDi ovr value s
  | .write8Si ovr value => Sys2Proof.Machine.execWrite8Si ovr value s
  | .write8Di ovr value => Sys2Proof.Machine.execWrite8Di ovr value s
  | .write8Bp ovr value => Sys2Proof.Machine.execWrite8Bp ovr value s
  | .write8Bx ovr value => Sys2Proof.Machine.execWrite8Bx ovr value s
  | .write8BxSiDisp8 d ovr value => Sys2Proof.Machine.execWrite8BxSiDisp8 d ovr value s
  | .write8BxDiDisp8 d ovr value => Sys2Proof.Machine.execWrite8BxDiDisp8 d ovr value s
  | .write8BpSiDisp8 d ovr value => Sys2Proof.Machine.execWrite8BpSiDisp8 d ovr value s
  | .write8BpDiDisp8 d ovr value => Sys2Proof.Machine.execWrite8BpDiDisp8 d ovr value s
  | .write8SiDisp8 d ovr value => Sys2Proof.Machine.execWrite8SiDisp8 d ovr value s
  | .write8DiDisp8 d ovr value => Sys2Proof.Machine.execWrite8DiDisp8 d ovr value s
  | .write8BpDisp8 d ovr value => Sys2Proof.Machine.execWrite8BpDisp8 d ovr value s
  | .write8BxDisp8 d ovr value => Sys2Proof.Machine.execWrite8BxDisp8 d ovr value s
  | .write8BxSiDisp16 d ovr value => Sys2Proof.Machine.execWrite8BxSiDisp16 d ovr value s
  | .write8BxDiDisp16 d ovr value => Sys2Proof.Machine.execWrite8BxDiDisp16 d ovr value s
  | .write8BpSiDisp16 d ovr value => Sys2Proof.Machine.execWrite8BpSiDisp16 d ovr value s
  | .write8BpDiDisp16 d ovr value => Sys2Proof.Machine.execWrite8BpDiDisp16 d ovr value s
  | .write8SiDisp16 d ovr value => Sys2Proof.Machine.execWrite8SiDisp16 d ovr value s
  | .write8DiDisp16 d ovr value => Sys2Proof.Machine.execWrite8DiDisp16 d ovr value s
  | .write8BpDisp16 d ovr value => Sys2Proof.Machine.execWrite8BpDisp16 d ovr value s
  | .write8BxDisp16 d ovr value => Sys2Proof.Machine.execWrite8BxDisp16 d ovr value s
  | .write8Disp16 d ovr value => Sys2Proof.Machine.execWrite8Disp16 d ovr value s
  | .write8RegisterMode ovr value => Sys2Proof.Machine.execWrite8RegisterMode ovr value s
  | .write8NearAddress a ovr value => Sys2Proof.Machine.execWrite8NearAddress a ovr value s
  | .write8FarAddress seg off ovr value => Sys2Proof.Machine.execWrite8FarAddress seg off ovr value s
  | .write8NoOperand ovr value => Sys2Proof.Machine.execWrite8NoOperand ovr value s
  | .write8InvalidOperand ovr value => Sys2Proof.Machine.execWrite8InvalidOperand ovr value s
  | .write16Immediate8 v ovr value => Sys2Proof.Machine.execWrite16Immediate8 v ovr value s
  | .write16Immediate16 v ovr value => Sys2Proof.Machine.execWrite16Immediate16 v ovr value s
  | .write16Relative8 r ovr value => Sys2Proof.Machine.execWrite16Relative8 r ovr value s
  | .write16Relative16 r ovr value => Sys2Proof.Machine.execWrite16Relative16 r ovr value s
  | .write16Offset8 o ovr value => Sys2Proof.Machine.execWrite16Offset8 o ovr value s
  | .write16Offset16 o ovr value => Sys2Proof.Machine.execWrite16Offset16 o ovr value s
  | .write16Register8 id ovr value => Sys2Proof.Machine.execWrite16Register8 id ovr value s
  | .write16Register16 id ovr value => Sys2Proof.Machine.execWrite16Register16 id ovr value s
  | .write16BxSi ovr value => Sys2Proof.Machine.execWrite16BxSi ovr value s
  | .write16BxDi ovr value => Sys2Proof.Machine.execWrite16BxDi ovr value s
  | .write16BpSi ovr value => Sys2Proof.Machine.execWrite16BpSi ovr value s
  | .write16BpDi ovr value => Sys2Proof.Machine.execWrite16BpDi ovr value s
  | .write16Si ovr value => Sys2Proof.Machine.execWrite16Si ovr value s
  | .write16Di ovr value => Sys2Proof.Machine.execWrite16Di ovr value s
  | .write16Bp ovr value => Sys2Proof.Machine.execWrite16Bp ovr value s
  | .write16Bx ovr value => Sys2Proof.Machine.execWrite16Bx ovr value s
  | .write16BxSiDisp8 d ovr value => Sys2Proof.Machine.execWrite16BxSiDisp8 d ovr value s
  | .write16BxDiDisp8 d ovr value => Sys2Proof.Machine.execWrite16BxDiDisp8 d ovr value s
  | .write16BpSiDisp8 d ovr value => Sys2Proof.Machine.execWrite16BpSiDisp8 d ovr value s
  | .write16BpDiDisp8 d ovr value => Sys2Proof.Machine.execWrite16BpDiDisp8 d ovr value s
  | .write16SiDisp8 d ovr value => Sys2Proof.Machine.execWrite16SiDisp8 d ovr value s
  | .write16DiDisp8 d ovr value => Sys2Proof.Machine.execWrite16DiDisp8 d ovr value s
  | .write16BpDisp8 d ovr value => Sys2Proof.Machine.execWrite16BpDisp8 d ovr value s
  | .write16BxDisp8 d ovr value => Sys2Proof.Machine.execWrite16BxDisp8 d ovr value s
  | .write16BxSiDisp16 d ovr value => Sys2Proof.Machine.execWrite16BxSiDisp16 d ovr value s
  | .write16BxDiDisp16 d ovr value => Sys2Proof.Machine.execWrite16BxDiDisp16 d ovr value s
  | .write16BpSiDisp16 d ovr value => Sys2Proof.Machine.execWrite16BpSiDisp16 d ovr value s
  | .write16BpDiDisp16 d ovr value => Sys2Proof.Machine.execWrite16BpDiDisp16 d ovr value s
  | .write16SiDisp16 d ovr value => Sys2Proof.Machine.execWrite16SiDisp16 d ovr value s
  | .write16DiDisp16 d ovr value => Sys2Proof.Machine.execWrite16DiDisp16 d ovr value s
  | .write16BpDisp16 d ovr value => Sys2Proof.Machine.execWrite16BpDisp16 d ovr value s
  | .write16BxDisp16 d ovr value => Sys2Proof.Machine.execWrite16BxDisp16 d ovr value s
  | .write16Disp16 d ovr value => Sys2Proof.Machine.execWrite16Disp16 d ovr value s
  | .write16RegisterMode ovr value => Sys2Proof.Machine.execWrite16RegisterMode ovr value s
  | .write16NearAddress a ovr value => Sys2Proof.Machine.execWrite16NearAddress a ovr value s
  | .write16FarAddress seg off ovr value => Sys2Proof.Machine.execWrite16FarAddress seg off ovr value s
  | .write16NoOperand ovr value => Sys2Proof.Machine.execWrite16NoOperand ovr value s
  | .write16InvalidOperand ovr value => Sys2Proof.Machine.execWrite16InvalidOperand ovr value s

end Sys2Proof.Machine
end

