-- ==== Sys2Proof/Machine/Service.lean ====
section
/-! DEFINITION. Serving the surroundings: a request word is decoded and run (60_exceptions.md R250), and what the surroundings
do next is taken one at a time (70_reset_and_hazards.md R288). -/

namespace Sys2Proof.Machine

/-- One request word, in the order of 60_exceptions.md R250: a halted block has no step; a malformed word is
`FATAL(MALFORMED_REQUEST)`; any other runs its request. -/
def serveRequest (w : ReqWord) (s : State) : StepResult :=
  if s.halted then .fault .halted
  else
    match decode w with
    | .ok i => exec i s
    | .malformed _ => .next (fatalEntry .malformedRequest w s)

/-- No input: a ready block waits (70_reset_and_hazards.md R272), a halted one has no step (60_exceptions.md R245).
That waiting is a step that changes nothing is a DESIGN CHOICE (safe), log 10. -/
def idle (s : State) : StepResult := accept s s

/-- The next move of the surroundings (70_reset_and_hazards.md R288(a)). Reset and a change behind the bus reach a halted
block too (60_exceptions.md R246, R261). -/
def serveNext (s : State) : StepResult :=
  match s.inputs with
  | [] => idle s
  | .request w :: rest => serveRequest w { s with inputs := rest }
  | .reset :: rest => .next (applyReset { s with inputs := rest })
  | .bus b :: rest => .next { s with inputs := rest, bus := b }

/-- The next thing the surroundings do is to issue this request word. -/
def placeRequest (w : ReqWord) (s : State) : State := { s with inputs := .request w :: s.inputs }

end Sys2Proof.Machine
end

