-- ==== Sys2Proof/Machine/Step.lean ====
section
/-! DEFINITION. One step of the machine, and where its next instruction is found. -/

namespace Sys2Proof.Machine

/-- One step: the next move of the surroundings, run to completion (00_scope.md R3). -/
def step (s : State) : Host.Outcome State Fault Refusal := serveNext s

/-- `s` with the request word `w` issued next. The block fetches nothing: the requester hands it its requests (10_state.md R29,
R34; log 18). The bits above `nbits` are zero. -/
def State.withFetchWord (s : State) (nbits w : Nat) : State :=
  placeRequest (BitVec.ofNat 64 (w % 2 ^ nbits)) s

end Sys2Proof.Machine
end

