-- ==== Sys2Proof/Safety.lean ====
section
/-! DEFINITION. What counts as a good state and a good run (60_exceptions.md R240, 70_reset_and_hazards.md R288(e)). -/

namespace Sys2Proof.Machine

/-- The memory behind the reference bus has its canonical form; nothing is asked of another bus. -/
def Bus.wf : Bus → Bool
  | .ref b => b.mem.wf
  | .platform _ => true

/-- The surroundings only ever connect a bus whose memory is canonical. -/
def Input.wf : Input → Bool
  | .request _ => true
  | .reset => true
  | .bus b => b.wf

/-- The memory is canonical, now and in every bus still to be connected. -/
def State.memoryCanonical (s : State) : Bool := s.bus.wf && s.inputs.all Input.wf

/-- `HALTED` and `DIAG` agree (10_state.md R31, R32): halted exactly when a fatal cause is recorded, and no request word is
recorded while none is. -/
def State.haltRecorded (s : State) : Bool :=
  decide ((s.halted = true ↔ s.diag.cause ≠ .noFatal) ∧ (s.halted = false → s.diag.req = 0))

/-- `k` steps of the machine. -/
def run (k : Nat) (s : State) : StepResult := Sys2Proof.core.run k s

/-- A run of `k` steps from `s` that ends well in `t`: no step faulted, and the block is not halted at the end
(70_reset_and_hazards.md R288(e)). -/
def EndsWell (k : Nat) (s t : State) : Prop := run k s = .next t ∧ t.halted = false

/-- The surroundings do not apply reset. -/
def State.noReset (s : State) : Bool := s.inputs.all fun x => decide (x ≠ .reset)

end Sys2Proof.Machine
end

