-- ==== Sys2Proof/Certificates/Slice0/Obligations.lean ====
section
/-! DEFINITION. The statements for the provers, from the numbered rules of spec/. The helpers under `Spec` say in the spec's own
terms what a response, a performed access or a form is. -/

open Sys2Proof Sys2Proof.Machine

namespace Spec

/-! ## Responses and states the rules give -/

/-- `OK` with a value (0 for a write) and a cost. The record and its unused fields are decision D11 (30_encoding.md R78, log 2): every
statement about a response rests on that shape. -/
def okResponse (v : Word) (c : Option Cost) : Response :=
  { status := .ok, value := v, cost := c, err := none, cause := .noFatal, req := 0 }

/-- `NA` (30_encoding.md R78): every other field zero or none. -/
def naResponse : Response :=
  { status := .na, value := 0, cost := none, err := none, cause := .noFatal, req := 0 }

/-- `BUS_ERROR(e)` (60_exceptions.md R247). -/
def busErrorResponse (e : BusError) : Response :=
  { status := .busError, value := 0, cost := none, err := some e, cause := .noFatal, req := 0 }

/-- `FATAL(cause)` with the request word (60_exceptions.md R244). -/
def fatalResponse (c : Cause) (w : ReqWord) : Response :=
  { status := .fatal, value := 0, cost := none, err := none, cause := c, req := w }

/-- `s` with a response and nothing else changed. -/
def answered (s : State) (r : Response) : State := { s with response := some r }

/-- `s` after one bus call `c` that left the bus as `b`, with its response and nothing else changed. -/
def afterCall (s : State) (c : BusCall) (b : Bus) (r : Response) : State :=
  { s with bus := b, busTrace := c :: s.busTrace, response := some r }

/-- The response to a read whose value is shown in 16 bits by `widen`. -/
def readAnswer {α : Type} (widen : α → Word) : BusResult α → Response
  | .ok v c => okResponse (widen v) (some c)
  | .err e => busErrorResponse e

/-- The response to a write. -/
def writeAnswer : BusResult Unit → Response
  | .ok _ c => okResponse 0 (some c)
  | .err e => busErrorResponse e

/-- After one `read_u8(a)` (43_operand_read.md R169). -/
def afterRead8 (s : State) (a : Addr) : State :=
  afterCall s (.readU8 a) (s.bus.readU8 a).2 (readAnswer (fun v => v.setWidth 16) (s.bus.readU8 a).1)

/-- After one `read_u16(a)` (43_operand_read.md R184). -/
def afterRead16 (s : State) (a : Addr) : State :=
  afterCall s (.readU16 a) (s.bus.readU16 a).2 (readAnswer id (s.bus.readU16 a).1)

/-- After one `write_u8(a, v)` (44_operand_write.md R209). -/
def afterWrite8 (s : State) (a : Addr) (v : Byte) : State :=
  afterCall s (.writeU8 a v) (s.bus.writeU8 a v).2 (writeAnswer (s.bus.writeU8 a v).1)

/-- After one `write_u16(a, v)` (44_operand_write.md R224). -/
def afterWrite16 (s : State) (a : Addr) (v : Word) : State :=
  afterCall s (.writeU16 a v) (s.bus.writeU16 a v).2 (writeAnswer (s.bus.writeU16 a v).1)

/-- After a fatal outcome of the request word `w` (60_exceptions.md R244). -/
def afterFatal (s : State) (c : Cause) (w : ReqWord) : State :=
  { s with halted := true, diag := ⟨c, w⟩, response := some (fatalResponse c w) }

/-- The fields of an instruction's word that its rule names: operation, operand kind, payload, write data. The codes are the spec's
own choice (decisions D2 to D9), which each instruction's rule restates (log 20). -/
def Encoded (i : Instr) (op : BitVec 2) (kind : BitVec 4) (p : BitVec 32) (wdata : Word) : Prop :=
  opField (encode i) = op ∧ kindField (encode i) = kind ∧ payloadField (encode i) = p ∧ wdataField (encode i) = wdata

/-- A mode's effective address and encoding (41_ea_calculator.md R114 to R138): the pair of the segment resolved from the default
kind and the offset; `kind = 8` and the payload `p` (codes: decisions D4 and D8, log 20). -/
def ModeIs (m : AddrMode) (kind : SegKind) (off : Word) (p : BitVec 32) (ovr : SegOverride) (x : RegFile) : Prop :=
  calcEa m ovr x = some (resolve kind ovr x, off) ∧
    (Operand.addressingMode m).kindCode = 8 ∧ (Operand.addressingMode m).payload = p

/-! ## Forms, listed by constructor -/

/-- The 25 `read8` instructions with a memory operand, each with its addressing mode. -/
def read8Memory (ovr : SegOverride) (d8 : Byte) (d16 : Word) : List (Instr × AddrMode) :=
  [(.read8BxSi ovr, .plain .bxSi), (.read8BxDi ovr, .plain .bxDi),
    (.read8BpSi ovr, .plain .bpSi), (.read8BpDi ovr, .plain .bpDi),
    (.read8Si ovr, .plain .si), (.read8Di ovr, .plain .di),
    (.read8Bp ovr, .plain .bp), (.read8Bx ovr, .plain .bx),
    (.read8BxSiDisp8 d8 ovr, .disp8 .bxSi d8), (.read8BxDiDisp8 d8 ovr, .disp8 .bxDi d8),
    (.read8BpSiDisp8 d8 ovr, .disp8 .bpSi d8), (.read8BpDiDisp8 d8 ovr, .disp8 .bpDi d8),
    (.read8SiDisp8 d8 ovr, .disp8 .si d8), (.read8DiDisp8 d8 ovr, .disp8 .di d8),
    (.read8BpDisp8 d8 ovr, .disp8 .bp d8), (.read8BxDisp8 d8 ovr, .disp8 .bx d8),
    (.read8BxSiDisp16 d16 ovr, .disp16 .bxSi d16), (.read8BxDiDisp16 d16 ovr, .disp16 .bxDi d16),
    (.read8BpSiDisp16 d16 ovr, .disp16 .bpSi d16), (.read8BpDiDisp16 d16 ovr, .disp16 .bpDi d16),
    (.read8SiDisp16 d16 ovr, .disp16 .si d16), (.read8DiDisp16 d16 ovr, .disp16 .di d16),
    (.read8BpDisp16 d16 ovr, .disp16 .bp d16), (.read8BxDisp16 d16 ovr, .disp16 .bx d16),
    (.read8Disp16 d16 ovr, .direct d16)]

/-- The 8 `read8` instructions of an operand kind without an 8-bit value, `Register16` apart, each with its kind code and payload. -/
def read8NotApplicable (w w2 : Word) (ovr : SegOverride) :
    List (Instr × BitVec 4 × BitVec 32) :=
  [(.read8Immediate16 w ovr, 1, w.setWidth 32), (.read8Relative16 w ovr, 3, w.setWidth 32),
    (.read8Offset8 w ovr, 4, w.setWidth 32), (.read8Offset16 w ovr, 5, w.setWidth 32),
    (.read8NearAddress w ovr, 9, w.setWidth 32), (.read8FarAddress w w2 ovr, 10, w ++ w2),
    (.read8NoOperand ovr, 11, 0), (.read8InvalidOperand ovr, 12, 0)]

/-- The 25 `read16` instructions with a memory operand, each with its addressing mode. -/
def read16Memory (ovr : SegOverride) (d8 : Byte) (d16 : Word) : List (Instr × AddrMode) :=
  [(.read16BxSi ovr, .plain .bxSi), (.read16BxDi ovr, .plain .bxDi),
    (.read16BpSi ovr, .plain .bpSi), (.read16BpDi ovr, .plain .bpDi),
    (.read16Si ovr, .plain .si), (.read16Di ovr, .plain .di),
    (.read16Bp ovr, .plain .bp), (.read16Bx ovr, .plain .bx),
    (.read16BxSiDisp8 d8 ovr, .disp8 .bxSi d8), (.read16BxDiDisp8 d8 ovr, .disp8 .bxDi d8),
    (.read16BpSiDisp8 d8 ovr, .disp8 .bpSi d8), (.read16BpDiDisp8 d8 ovr, .disp8 .bpDi d8),
    (.read16SiDisp8 d8 ovr, .disp8 .si d8), (.read16DiDisp8 d8 ovr, .disp8 .di d8),
    (.read16BpDisp8 d8 ovr, .disp8 .bp d8), (.read16BxDisp8 d8 ovr, .disp8 .bx d8),
    (.read16BxSiDisp16 d16 ovr, .disp16 .bxSi d16), (.read16BxDiDisp16 d16 ovr, .disp16 .bxDi d16),
    (.read16BpSiDisp16 d16 ovr, .disp16 .bpSi d16), (.read16BpDiDisp16 d16 ovr, .disp16 .bpDi d16),
    (.read16SiDisp16 d16 ovr, .disp16 .si d16), (.read16DiDisp16 d16 ovr, .disp16 .di d16),
    (.read16BpDisp16 d16 ovr, .disp16 .bp d16), (.read16BxDisp16 d16 ovr, .disp16 .bx d16),
    (.read16Disp16 d16 ovr, .direct d16)]

/-- The 9 `read16` instructions of an operand kind that `read16` does not apply to, each with its kind code and payload. -/
def read16NotApplicable (b : Byte) (w w2 : Word) (r8 : Reg8) (ovr : SegOverride) :
    List (Instr × BitVec 4 × BitVec 32) :=
  [(.read16Immediate8 b ovr, 0, b.setWidth 32), (.read16Relative8 b ovr, 2, b.setWidth 32),
    (.read16Offset8 w ovr, 4, w.setWidth 32), (.read16Offset16 w ovr, 5, w.setWidth 32),
    (.read16Register8 r8 ovr, 6, r8.code.setWidth 32), (.read16NearAddress w ovr, 9, w.setWidth 32),
    (.read16FarAddress w w2 ovr, 10, w ++ w2), (.read16NoOperand ovr, 11, 0),
    (.read16InvalidOperand ovr, 12, 0)]

/-- The 25 `write8` instructions with a memory operand, each with its addressing mode. -/
def write8Memory (ovr : SegOverride) (d8 : Byte) (d16 : Word) (value : Byte) : List (Instr × AddrMode) :=
  [(.write8BxSi ovr value, .plain .bxSi), (.write8BxDi ovr value, .plain .bxDi),
    (.write8BpSi ovr value, .plain .bpSi), (.write8BpDi ovr value, .plain .bpDi),
    (.write8Si ovr value, .plain .si), (.write8Di ovr value, .plain .di),
    (.write8Bp ovr value, .plain .bp), (.write8Bx ovr value, .plain .bx),
    (.write8BxSiDisp8 d8 ovr value, .disp8 .bxSi d8), (.write8BxDiDisp8 d8 ovr value, .disp8 .bxDi d8),
    (.write8BpSiDisp8 d8 ovr value, .disp8 .bpSi d8), (.write8BpDiDisp8 d8 ovr value, .disp8 .bpDi d8),
    (.write8SiDisp8 d8 ovr value, .disp8 .si d8), (.write8DiDisp8 d8 ovr value, .disp8 .di d8),
    (.write8BpDisp8 d8 ovr value, .disp8 .bp d8), (.write8BxDisp8 d8 ovr value, .disp8 .bx d8),
    (.write8BxSiDisp16 d16 ovr value, .disp16 .bxSi d16), (.write8BxDiDisp16 d16 ovr value, .disp16 .bxDi d16),
    (.write8BpSiDisp16 d16 ovr value, .disp16 .bpSi d16), (.write8BpDiDisp16 d16 ovr value, .disp16 .bpDi d16),
    (.write8SiDisp16 d16 ovr value, .disp16 .si d16), (.write8DiDisp16 d16 ovr value, .disp16 .di d16),
    (.write8BpDisp16 d16 ovr value, .disp16 .bp d16), (.write8BxDisp16 d16 ovr value, .disp16 .bx d16),
    (.write8Disp16 d16 ovr value, .direct d16)]

/-- The 10 `write8` instructions of an operand kind that is no write target, `Register16` apart, each with its kind code and payload. -/
def write8NotApplicable (b : Byte) (w w2 : Word) (ovr : SegOverride) (value : Byte) :
    List (Instr × BitVec 4 × BitVec 32) :=
  [(.write8Immediate8 b ovr value, 0, b.setWidth 32), (.write8Immediate16 w ovr value, 1, w.setWidth 32),
    (.write8Relative8 b ovr value, 2, b.setWidth 32), (.write8Relative16 w ovr value, 3, w.setWidth 32),
    (.write8Offset8 w ovr value, 4, w.setWidth 32), (.write8Offset16 w ovr value, 5, w.setWidth 32),
    (.write8NearAddress w ovr value, 9, w.setWidth 32), (.write8FarAddress w w2 ovr value, 10, w ++ w2),
    (.write8NoOperand ovr value, 11, 0), (.write8InvalidOperand ovr value, 12, 0)]

/-- The 25 `write16` instructions with a memory operand, each with its addressing mode. -/
def write16Memory (ovr : SegOverride) (d8 : Byte) (d16 : Word) (value : Word) : List (Instr × AddrMode) :=
  [(.write16BxSi ovr value, .plain .bxSi), (.write16BxDi ovr value, .plain .bxDi),
    (.write16BpSi ovr value, .plain .bpSi), (.write16BpDi ovr value, .plain .bpDi),
    (.write16Si ovr value, .plain .si), (.write16Di ovr value, .plain .di),
    (.write16Bp ovr value, .plain .bp), (.write16Bx ovr value, .plain .bx),
    (.write16BxSiDisp8 d8 ovr value, .disp8 .bxSi d8), (.write16BxDiDisp8 d8 ovr value, .disp8 .bxDi d8),
    (.write16BpSiDisp8 d8 ovr value, .disp8 .bpSi d8), (.write16BpDiDisp8 d8 ovr value, .disp8 .bpDi d8),
    (.write16SiDisp8 d8 ovr value, .disp8 .si d8), (.write16DiDisp8 d8 ovr value, .disp8 .di d8),
    (.write16BpDisp8 d8 ovr value, .disp8 .bp d8), (.write16BxDisp8 d8 ovr value, .disp8 .bx d8),
    (.write16BxSiDisp16 d16 ovr value, .disp16 .bxSi d16), (.write16BxDiDisp16 d16 ovr value, .disp16 .bxDi d16),
    (.write16BpSiDisp16 d16 ovr value, .disp16 .bpSi d16), (.write16BpDiDisp16 d16 ovr value, .disp16 .bpDi d16),
    (.write16SiDisp16 d16 ovr value, .disp16 .si d16), (.write16DiDisp16 d16 ovr value, .disp16 .di d16),
    (.write16BpDisp16 d16 ovr value, .disp16 .bp d16), (.write16BxDisp16 d16 ovr value, .disp16 .bx d16),
    (.write16Disp16 d16 ovr value, .direct d16)]

/-- The 10 `write16` instructions of an operand kind that is no write target, `Register8` apart, each with its kind code and payload. -/
def write16NotApplicable (b : Byte) (w w2 : Word) (ovr : SegOverride) (value : Word) :
    List (Instr × BitVec 4 × BitVec 32) :=
  [(.write16Immediate8 b ovr value, 0, b.setWidth 32), (.write16Immediate16 w ovr value, 1, w.setWidth 32),
    (.write16Relative8 b ovr value, 2, b.setWidth 32), (.write16Relative16 w ovr value, 3, w.setWidth 32),
    (.write16Offset8 w ovr value, 4, w.setWidth 32), (.write16Offset16 w ovr value, 5, w.setWidth 32),
    (.write16NearAddress w ovr value, 9, w.setWidth 32), (.write16FarAddress w w2 ovr value, 10, w ++ w2),
    (.write16NoOperand ovr value, 11, 0), (.write16InvalidOperand ovr value, 12, 0)]

/-- The register operands of the wrong width that are not applicable, each with its operation, kind code,
payload and write data. -/
def widthMismatches (r8 : Reg8) (r16 : Reg16Id) (b : Byte) (w : Word) (ovr : SegOverride) :
    List (Instr × BitVec 2 × BitVec 4 × BitVec 32 × Word) :=
  [(.read8Register16 r16 ovr, 0, 7, r16.code.setWidth 32, 0),
    (.write8Register16 r16 ovr b, 2, 7, r16.code.setWidth 32, b.setWidth 16),
    (.write16Register8 r8 ovr w, 3, 6, r8.code.setWidth 32, w)]

/-- The four instructions of the register-direct mode. -/
def registerModeForms (ovr : SegOverride) (b : Byte) (w : Word) : List Instr :=
  [.read8RegisterMode ovr, .read16RegisterMode ovr, .write8RegisterMode ovr b, .write16RegisterMode ovr w]

/-- The two 16-bit register instructions with an unrecognised identity. -/
def badRegisterForms (n : BitVec 4) (ovr : SegOverride) (w : Word) : List Instr :=
  [.read16Register16 (.bad n) ovr, .write16Register16 (.bad n) ovr w]

/-- The nine modes whose base includes `BP` (41_ea_calculator.md R111). -/
def bpBased : AddrMode → Bool
  | .plain .bpSi | .plain .bpDi | .plain .bp => true
  | .disp8 .bpSi _ | .disp8 .bpDi _ | .disp8 .bp _ => true
  | .disp16 .bpSi _ | .disp16 .bpDi _ | .disp16 .bp _ => true
  | _ => false

/-- The exact sum of a base's registers, before any wrap. -/
def baseSum (b : EaBase) (x : RegFile) : Nat :=
  match b with
  | .bxSi => x.bx.toNat + x.si.toNat
  | .bxDi => x.bx.toNat + x.di.toNat
  | .bpSi => x.bp.toNat + x.si.toNat
  | .bpDi => x.bp.toNat + x.di.toNat
  | .si => x.si.toNat
  | .di => x.di.toNat
  | .bp => x.bp.toNat
  | .bx => x.bx.toNat

/-- The exact sum of a mode's registers and displacement; an 8-bit displacement is signed. -/
def exactOffset (m : AddrMode) (x : RegFile) : Int :=
  match m with
  | .plain b => baseSum b x
  | .disp8 b d => baseSum b x + d.toInt
  | .disp16 b d => baseSum b x + (d.toNat : Int)
  | .direct d => (d.toNat : Int)
  | .registerMode => 0

/-- The bus call a request with a memory operand makes at address `a` (20_memory.md R46). -/
def callAt (a : Addr) : Request → BusCall
  | .read8 _ _ => .readU8 a
  | .read16 _ _ => .readU16 a
  | .write8 _ _ v => .writeU8 a v
  | .write16 _ _ v => .writeU16 a v

/-- The address a request reaches memory at: there is one exactly when its operand is an addressing mode other than
`RegisterMode` (20_memory.md R41, R45). -/
def reaches (r : Request) (x : RegFile) : Option Addr :=
  match r.operand with
  | .addressingMode m => (calcEa m r.override x).map fun p => linearAddr p.1 p.2
  | _ => none

/-- The cost in the bus's answer to a call, if it succeeded (20_memory.md R58). -/
def costOf (b : Bus) : BusCall → Option Cost
  | .readU8 a => match (b.readU8 a).1 with | .ok _ c => some c | .err _ => none
  | .readU16 a => match (b.readU16 a).1 with | .ok _ c => some c | .err _ => none
  | .writeU8 a v => match (b.writeU8 a v).1 with | .ok _ c => some c | .err _ => none
  | .writeU16 a v => match (b.writeU16 a v).1 with | .ok _ c => some c | .err _ => none

/-- The error in the bus's answer to a call, if it failed (20_memory.md R42). -/
def errorOf (b : Bus) : BusCall → Option BusError
  | .readU8 a => match (b.readU8 a).1 with | .ok _ _ => none | .err e => some e
  | .readU16 a => match (b.readU16 a).1 with | .ok _ _ => none | .err e => some e
  | .writeU8 a v => match (b.writeU8 a v).1 with | .ok _ _ => none | .err e => some e
  | .writeU16 a v => match (b.writeU16 a v).1 with | .ok _ _ => none | .err e => some e

/-- The bus after it served a call (20_memory.md R43). -/
def busAfter (b : Bus) : BusCall → Bus
  | .readU8 a => (b.readU8 a).2
  | .readU16 a => (b.readU16 a).2
  | .writeU8 a v => (b.writeU8 a v).2
  | .writeU16 a v => (b.writeU16 a v).2

/-- The bytes the reference bus touches for a request at address `a` (20_memory.md R50). -/
def touched (a : Addr) : Request → List Addr
  | .read8 _ _ | .write8 _ _ _ => [a]
  | .read16 _ _ | .write16 _ _ _ => [a, a + 1]

/-- The words of 30_encoding.md R75 that are malformed, from its own text. -/
def malformedWord (w : ReqWord) : Prop :=
  let p := payloadField w
  let mode := (p.extractLsb' 16 5).toNat
  5 ≤ (ovrField w).toNat ∨ 13 ≤ (kindField w).toNat ∨ mbzField w ≠ 0 ∨
    ((kindField w = 0 ∨ kindField w = 2) ∧ p.extractLsb' 8 24 ≠ 0) ∨
    ((kindField w = 1 ∨ kindField w = 3 ∨ kindField w = 4 ∨ kindField w = 5 ∨ kindField w = 9) ∧
      p.extractLsb' 16 16 ≠ 0) ∨
    (kindField w = 6 ∧ p.extractLsb' 3 29 ≠ 0) ∨ (kindField w = 7 ∧ p.extractLsb' 4 28 ≠ 0) ∨
    ((kindField w = 11 ∨ kindField w = 12) ∧ p ≠ 0) ∨
    (kindField w = 8 ∧
      (p.extractLsb' 21 11 ≠ 0 ∨ 26 ≤ mode ∨ ((mode ≤ 7 ∨ mode = 25) ∧ p.extractLsb' 0 16 ≠ 0) ∨
        (8 ≤ mode ∧ mode ≤ 15 ∧ p.extractLsb' 8 8 ≠ 0))) ∨
    ((opField w = 0 ∨ opField w = 1) ∧ wdataField w ≠ 0) ∨ (opField w = 2 ∧ (wdataField w).extractLsb' 8 8 ≠ 0)

/-- The registers after a request (10_state.md R28): a half written by `write8 Register8`, a register written by `write16
Register16` with a legal identity, and nothing else. -/
def regsAfter (x : RegFile) : Request → RegFile
  | .write8 (.register8 id) _ v => x.setHalf id v
  | .write16 (.register16 (.reg r)) _ v => x.set r v
  | _ => x

end Spec

/-! ## The register file (10_state.md) -/

/-- 10_state.md R24: each half is the eight bits of its register that the rule names. -/
def Obligations.HalfReadsSelectBits : Prop :=
  ∀ x : RegFile,
    x.getHalf .al = x.ax.extractLsb' 0 8 ∧ x.getHalf .ah = x.ax.extractLsb' 8 8 ∧
    x.getHalf .bl = x.bx.extractLsb' 0 8 ∧ x.getHalf .bh = x.bx.extractLsb' 8 8 ∧
    x.getHalf .cl = x.cx.extractLsb' 0 8 ∧ x.getHalf .ch = x.cx.extractLsb' 8 8 ∧
    x.getHalf .dl = x.dx.extractLsb' 0 8 ∧ x.getHalf .dh = x.dx.extractLsb' 8 8

/-- 10_state.md R25: writing a half keeps the other half of its register and every other register. -/
def Obligations.HalfWritesKeepTheRest : Prop :=
  ∀ (x : RegFile) (v : Byte),
    x.setHalf .al v = { x with ax := (x.ax &&& 0xFF00#16) ||| v.setWidth 16 } ∧
    x.setHalf .ah v = { x with ax := (x.ax &&& 0x00FF#16) ||| (v.setWidth 16 <<< 8) } ∧
    x.setHalf .bl v = { x with bx := (x.bx &&& 0xFF00#16) ||| v.setWidth 16 } ∧
    x.setHalf .bh v = { x with bx := (x.bx &&& 0x00FF#16) ||| (v.setWidth 16 <<< 8) } ∧
    x.setHalf .cl v = { x with cx := (x.cx &&& 0xFF00#16) ||| v.setWidth 16 } ∧
    x.setHalf .ch v = { x with cx := (x.cx &&& 0x00FF#16) ||| (v.setWidth 16 <<< 8) } ∧
    x.setHalf .dl v = { x with dx := (x.dx &&& 0xFF00#16) ||| v.setWidth 16 } ∧
    x.setHalf .dh v = { x with dx := (x.dx &&& 0x00FF#16) ||| (v.setWidth 16 <<< 8) }

/-- 10_state.md R26: a half reads back what was written to it, every other half keeps its value, and a 16-bit write sets both
halves of its register. The pairing of halves and registers is the spec's from general knowledge (R23, G1; log 14). -/
def Obligations.HalvesAliasTheirRegister : Prop :=
  (∀ (x : RegFile) (h k : Reg8) (v : Byte), (x.setHalf h v).getHalf k = if k = h then v else x.getHalf k) ∧
  (∀ (x : RegFile) (w : Word),
    (x.set .ax w).getHalf .ah = w.extractLsb' 8 8 ∧ (x.set .ax w).getHalf .al = w.extractLsb' 0 8 ∧
    (x.set .bx w).getHalf .bh = w.extractLsb' 8 8 ∧ (x.set .bx w).getHalf .bl = w.extractLsb' 0 8 ∧
    (x.set .cx w).getHalf .ch = w.extractLsb' 8 8 ∧ (x.set .cx w).getHalf .cl = w.extractLsb' 0 8 ∧
    (x.set .dx w).getHalf .dh = w.extractLsb' 8 8 ∧ (x.set .dx w).getHalf .dl = w.extractLsb' 0 8)

/-- 10_state.md sections 2 and 3: the twelve registers are twelve separate cells; a write changes the one named. -/
def Obligations.RegisterWriteReadsBack : Prop :=
  ∀ (x : RegFile) (r q : Reg16) (v : Word), (x.set r v).get q = if q = r then v else x.get q

/-! ## The request word (30_encoding.md). Its codes are the spec's own choice (decisions D2 to D10; log 20). -/

/-- 30_encoding.md R75: every request encodes to a word that decodes to it. -/
def Obligations.DecodeOfEncodeIsTheInstruction : Prop :=
  ∀ i : Instr, i.wf = true → decode (encode i) = .ok i

/-- 30_encoding.md R75: a word that decodes is the encoding of what it decodes to, which is well-formed. -/
def Obligations.EncodeOfDecodeIsTheWord : Prop :=
  ∀ (w : ReqWord) (i : Instr), decode w = .ok i → encode i = w ∧ i.wf = true

/-- 30_encoding.md R75: a word is malformed exactly when one of the six conditions holds; every other word decodes. -/
def Obligations.MalformedExactlyWhenR75Says : Prop :=
  ∀ w : ReqWord, ((∃ why, decode w = .malformed why) ↔ Spec.malformedWord w) ∧
    ((∃ i, decode w = .ok i) ↔ ¬ Spec.malformedWord w)

/-- Words written out bit by bit from 30_encoding.md R65 to R74, one per operation and for each shape of payload. -/
def Obligations.WrittenOutWordsDecode : Prop :=
  decode (0b00_000_0110_0000000_00000000000000000000000000000001_0000000000000000#64) = .ok (.read8Register8 .al .none) ∧
  decode (0b01_000_1000_0000000_00000000000_01110_0000000000000100_0000000000000000#64) = .ok (.read16BpDisp8 4 .none) ∧
  decode (0b10_001_1000_0000000_00000000000_00000_0000000000000000_0000000001000001#64) = .ok (.write8BxSi .es 0x41) ∧
  decode (0b11_000_0111_0000000_00000000000000000000000000001001_0011000000000000#64) =
    .ok (.write16Register16 (.reg .ds) .none 0x3000) ∧
  decode (0b11_100_1010_0000000_1111111111111111_1111111111111111_1111111111111111#64) =
    .ok (.write16FarAddress 0xFFFF 0xFFFF .ds 0xFFFF) ∧
  decode (0b01_000_0111_0000000_00000000000000000000000000001101_0000000000000000#64) =
    .ok (.read16Register16 (.bad 13) .none)

/-- A step on a request word that decodes is `exec` of its instruction, the word taken from the inputs (60_exceptions.md R250).
The list of inputs is the model's (log 1). -/
def Obligations.StepRunsTheDecodedRequest : Prop :=
  ∀ (s : State) (w : ReqWord) (rest : List Input) (i : Instr),
    s.inputs = .request w :: rest → decode w = .ok i → step s = exec i { s with inputs := rest }

/-- A malformed word issued to a ready block is `FATAL(MALFORMED_REQUEST)`; its latch and record are decision D12, its cause
decision D10 (60_exceptions.md R243, R244; log 4, log 17). -/
def Obligations.MalformedWordIsFatal : Prop :=
  ∀ (s : State) (w : ReqWord) (rest : List Input) (why : Malformed),
    s.halted = false → s.inputs = .request w :: rest → decode w = .malformed why →
      step s = .next (Spec.afterFatal { s with inputs := rest } .malformedRequest w)

/-! ## From an addressing mode to an address (40, 41, 42) -/

/-- 40_segment_resolver.md R90 to R96: the ten cases of `resolve`. -/
def Obligations.ResolveTenCases : Prop :=
  ∀ x : RegFile,
    resolve .dataSegment .none x = x.ds ∧ resolve .stackSegment .none x = x.ss ∧
    (∀ k, resolve k .es x = x.es) ∧ (∀ k, resolve k .cs x = x.cs) ∧
    (∀ k, resolve k .ss x = x.ss) ∧ (∀ k, resolve k .ds x = x.ds)

/-- 41_ea_calculator.md R111: the default segment kind is the stack segment for the nine `BP`-based modes and the data segment for
the other sixteen, and `RegisterMode` has none; so without override the segment is `SS` or `DS`, and with one it is the
overriding register. -/
def Obligations.DefaultSegmentOfEachMode : Prop :=
  defaultKind .registerMode = none ∧
  ∀ (m : AddrMode) (ovr : SegOverride) (x : RegFile), m ≠ .registerMode →
    defaultKind m = some (if Spec.bpBased m then .stackSegment else .dataSegment) ∧
    ∃ off, calcEa m ovr x =
      some (match ovr with
        | .none => if Spec.bpBased m then x.ss else x.ds
        | .es => x.es
        | .cs => x.cs
        | .ss => x.ss
        | .ds => x.ds, off)

/-- 41_ea_calculator.md R114 to R119, R121: the modes without displacement, `Bp` apart. -/
def Obligations.EaWithoutDisplacement : Prop :=
  ∀ (ovr : SegOverride) (x : RegFile),
    Spec.ModeIs (.plain .bxSi) .dataSegment (add16 x.bx x.si) (0x00000000#32) ovr x ∧
    Spec.ModeIs (.plain .bxDi) .dataSegment (add16 x.bx x.di) (0x00010000#32) ovr x ∧
    Spec.ModeIs (.plain .bpSi) .stackSegment (add16 x.bp x.si) (0x00020000#32) ovr x ∧
    Spec.ModeIs (.plain .bpDi) .stackSegment (add16 x.bp x.di) (0x00030000#32) ovr x ∧
    Spec.ModeIs (.plain .si) .dataSegment (x.si) (0x00040000#32) ovr x ∧
    Spec.ModeIs (.plain .di) .dataSegment (x.di) (0x00050000#32) ovr x ∧
    Spec.ModeIs (.plain .bx) .dataSegment (x.bx) (0x00070000#32) ovr x

/-- The mode `Bp` without displacement. That it exists is the spec's reading of a conflict and general knowledge
(41_ea_calculator.md R120, 90_conflicts.md C2, decision D8; log 16); its effective address is that of `BpDisp8(0)`. -/
def Obligations.EaOfBpWithoutDisplacement : Prop :=
  ∀ (ovr : SegOverride) (x : RegFile),
    Spec.ModeIs (.plain .bp) .stackSegment x.bp (0x00060000#32) ovr x ∧
      calcEa (.plain .bp) ovr x = calcEa (.disp8 .bp 0) ovr x

/-- 41_ea_calculator.md R122 to R129: the eight modes with an 8-bit signed displacement. -/
def Obligations.EaWithDisp8 : Prop :=
  ∀ (ovr : SegOverride) (d : Byte) (x : RegFile),
    Spec.ModeIs (.disp8 .bxSi d) .dataSegment (add16 (add16 x.bx x.si) (d.signExtend 16)) (0x00080000#32 ||| d.setWidth 32) ovr x ∧
    Spec.ModeIs (.disp8 .bxDi d) .dataSegment (add16 (add16 x.bx x.di) (d.signExtend 16)) (0x00090000#32 ||| d.setWidth 32) ovr x ∧
    Spec.ModeIs (.disp8 .bpSi d) .stackSegment (add16 (add16 x.bp x.si) (d.signExtend 16)) (0x000A0000#32 ||| d.setWidth 32) ovr x ∧
    Spec.ModeIs (.disp8 .bpDi d) .stackSegment (add16 (add16 x.bp x.di) (d.signExtend 16)) (0x000B0000#32 ||| d.setWidth 32) ovr x ∧
    Spec.ModeIs (.disp8 .si d) .dataSegment (add16 x.si (d.signExtend 16)) (0x000C0000#32 ||| d.setWidth 32) ovr x ∧
    Spec.ModeIs (.disp8 .di d) .dataSegment (add16 x.di (d.signExtend 16)) (0x000D0000#32 ||| d.setWidth 32) ovr x ∧
    Spec.ModeIs (.disp8 .bp d) .stackSegment (add16 x.bp (d.signExtend 16)) (0x000E0000#32 ||| d.setWidth 32) ovr x ∧
    Spec.ModeIs (.disp8 .bx d) .dataSegment (add16 x.bx (d.signExtend 16)) (0x000F0000#32 ||| d.setWidth 32) ovr x

/-- 41_ea_calculator.md R130 to R138: the eight modes with a 16-bit displacement, and the direct form. -/
def Obligations.EaWithDisp16 : Prop :=
  ∀ (ovr : SegOverride) (d : Word) (x : RegFile),
    Spec.ModeIs (.disp16 .bxSi d) .dataSegment (add16 (add16 x.bx x.si) d) (0x00100000#32 ||| d.setWidth 32) ovr x ∧
    Spec.ModeIs (.disp16 .bxDi d) .dataSegment (add16 (add16 x.bx x.di) d) (0x00110000#32 ||| d.setWidth 32) ovr x ∧
    Spec.ModeIs (.disp16 .bpSi d) .stackSegment (add16 (add16 x.bp x.si) d) (0x00120000#32 ||| d.setWidth 32) ovr x ∧
    Spec.ModeIs (.disp16 .bpDi d) .stackSegment (add16 (add16 x.bp x.di) d) (0x00130000#32 ||| d.setWidth 32) ovr x ∧
    Spec.ModeIs (.disp16 .si d) .dataSegment (add16 x.si d) (0x00140000#32 ||| d.setWidth 32) ovr x ∧
    Spec.ModeIs (.disp16 .di d) .dataSegment (add16 x.di d) (0x00150000#32 ||| d.setWidth 32) ovr x ∧
    Spec.ModeIs (.disp16 .bp d) .stackSegment (add16 x.bp d) (0x00160000#32 ||| d.setWidth 32) ovr x ∧
    Spec.ModeIs (.disp16 .bx d) .dataSegment (add16 x.bx d) (0x00170000#32 ||| d.setWidth 32) ovr x ∧
    Spec.ModeIs (.direct d) .dataSegment d (0x00180000#32 ||| d.setWidth 32) ovr x

/-- 41_ea_calculator.md R112: no displacement is zero, an 8-bit one keeps its signed value, a 16-bit one its bits. -/
def Obligations.DisplacementValues : Prop :=
  (∀ b, dispval (.plain b) = 0) ∧ (∀ b d, (dispval (.disp8 b d)).toInt = d.toInt) ∧
    (∀ b d, dispval (.disp16 b d) = d) ∧ (∀ d, dispval (.direct d) = d)

/-- 41_ea_calculator.md R140: the offset is the exact sum of base registers and displacement modulo 2^16, and no carry reaches the
segment, which is the resolved register's value. -/
def Obligations.OffsetWrapsModulo64K : Prop :=
  ∀ (m : AddrMode) (ovr : SegOverride) (x : RegFile) (seg off : Word),
    calcEa m ovr x = some (seg, off) → (off.toNat : Int) = Spec.exactOffset m x % 65536 ∧
      ∃ kind, defaultKind m = some kind ∧ seg = resolve kind ovr x

/-- 41_ea_calculator.md R113: the offset does not depend on the override or on a segment register, the segment not on a base
register or the displacement. -/
def Obligations.OffsetAndSegmentAreIndependent : Prop :=
  (∀ (m : AddrMode) (o1 o2 : SegOverride) (x : RegFile) (r : Reg16) (v : Word), r ∈ [Reg16.cs, .ds, .es, .ss] →
    (calcEa m o1 x).map Prod.snd = (calcEa m o2 (x.set r v)).map Prod.snd) ∧
  (∀ (b : EaBase) (d8 : Byte) (d16 : Word) (ovr : SegOverride) (x : RegFile) (r : Reg16) (v : Word),
    r ∉ [Reg16.cs, .ds, .es, .ss] →
    (calcEa (.plain b) ovr x).map Prod.fst = (calcEa (.disp8 b d8) ovr (x.set r v)).map Prod.fst ∧
    (calcEa (.plain b) ovr x).map Prod.fst = (calcEa (.disp16 b d16) ovr (x.set r v)).map Prod.fst)

/-- 10_state.md R27: `AX`, `CX`, `DX` and `SP` are never read by address calculation. -/
def Obligations.AddressesIgnoreAxCxDxSp : Prop :=
  ∀ (m : AddrMode) (ovr : SegOverride) (x : RegFile) (r : Reg16) (v : Word), r ∈ [Reg16.ax, .cx, .dx, .sp] →
    calcEa m ovr (x.set r v) = calcEa m ovr x

/-- 42_linear_translator.md R150: the physical address is `segment * 16 + offset`, computed without loss, modulo 2^20. -/
def Obligations.TranslateFormula : Prop :=
  ∀ seg off : Word, (linearAddr seg off).toNat = (seg.toNat * 16 + off.toNat) % 2 ^ 20

/-- 42_linear_translator.md R151: a sum of 2^20 or more wraps to the sum minus 2^20, which happens only from segment `0xF001` on
and reaches at most `0x0FFEF`; any other sum is the address. -/
def Obligations.TranslateWrapsAtOneMegabyte : Prop :=
  ∀ seg off : Word,
    (2 ^ 20 ≤ seg.toNat * 16 + off.toNat →
      (linearAddr seg off).toNat + 2 ^ 20 = seg.toNat * 16 + off.toNat ∧ 0xF001 ≤ seg.toNat ∧
        (linearAddr seg off).toNat ≤ 0x0FFEF) ∧
    (seg.toNat * 16 + off.toNat < 2 ^ 20 → (linearAddr seg off).toNat = seg.toNat * 16 + off.toNat)

/-- 42_linear_translator.md R152: moving `16 * k` from the segment to the offset names the same byte. -/
def Obligations.TranslateAliases : Prop :=
  ∀ (seg off : Word) (k : Nat), k ≤ seg.toNat → off.toNat + 16 * k < 65536 →
    linearAddr (seg - BitVec.ofNat 16 k) (off + BitVec.ofNat 16 (16 * k)) = linearAddr seg off

/-! ## Read requests (43_operand_read.md) -/

/-- 43_operand_read.md R161, R163, R167: `read8` of an immediate, a relative displacement and a register half. -/
def Obligations.Read8ValueKinds : Prop :=
  ∀ (s : State) (ovr : SegOverride), s.halted = false →
    (∀ v : Byte, exec (.read8Immediate8 v ovr) s = .next (Spec.answered s (Spec.okResponse (v.setWidth 16) none)) ∧
      Spec.Encoded (.read8Immediate8 v ovr) 0 0 (v.setWidth 32) 0) ∧
    (∀ r : Byte, exec (.read8Relative8 r ovr) s = .next (Spec.answered s (Spec.okResponse (r.setWidth 16) none)) ∧
      Spec.Encoded (.read8Relative8 r ovr) 0 2 (r.setWidth 32) 0) ∧
    (∀ id : Reg8,
      exec (.read8Register8 id ovr) s = .next (Spec.answered s (Spec.okResponse ((s.regs.getHalf id).setWidth 16) none)) ∧
      Spec.Encoded (.read8Register8 id ovr) 0 6 (id.code.setWidth 32) 0)

/-- 43_operand_read.md R162, R164 to R166, R170 to R173: `read8` of these eight kinds is `NA`, whatever the payload. -/
def Obligations.Read8NotApplicableKinds : Prop :=
  ∀ (s : State) (ovr : SegOverride) (w w2 : Word), s.halted = false →
    ∀ form ∈ Spec.read8NotApplicable w w2 ovr,
      exec form.1 s = .next (Spec.answered s Spec.naResponse) ∧ Spec.Encoded form.1 0 form.2.1 form.2.2 0

/-- 43_operand_read.md R169: `read8` of a memory operand makes one `read_u8` at the translated address; with `RegisterMode` it is
`FATAL` before any bus call. That a `FATAL` outcome is a next
state (DEDUCED, log 4) and that its word is the encoding of the instruction (DEDUCED, log 11) are the model's: the last clause
rests on both, the others on neither. -/
def Obligations.Read8Memory : Prop :=
  ∀ (s : State) (ovr : SegOverride) (d8 : Byte) (d16 : Word), s.halted = false →
    (∀ form ∈ Spec.read8Memory ovr d8 d16,
      (∃ seg off, calcEa form.2 ovr s.regs = some (seg, off) ∧
        exec form.1 s = .next (Spec.afterRead8 s (linearAddr seg off))) ∧
      Spec.Encoded form.1 0 8 (Operand.addressingMode form.2).payload 0) ∧
    (∃ t, exec (.read8RegisterMode ovr) s = .next t ∧
      t.response = some (Spec.fatalResponse .registerModeEa (encode (.read8RegisterMode ovr))) ∧
      t.regs = s.regs ∧ t.bus = s.bus ∧ t.busTrace = s.busTrace ∧
      Spec.Encoded (.read8RegisterMode ovr) 0 8 (0x00190000#32) 0)

/-- 43_operand_read.md R177, R179, R183: `read16` of an immediate, a relative displacement and a register; an unrecognised
identity is `FATAL`. That a `FATAL` outcome is a next
state (DEDUCED, log 4) and that its word is the encoding of the instruction (DEDUCED, log 11) are the model's: the last clause
rests on both, the others on neither. -/
def Obligations.Read16ValueKinds : Prop :=
  ∀ (s : State) (ovr : SegOverride), s.halted = false →
    (∀ v : Word, exec (.read16Immediate16 v ovr) s = .next (Spec.answered s (Spec.okResponse v none)) ∧
      Spec.Encoded (.read16Immediate16 v ovr) 1 1 (v.setWidth 32) 0) ∧
    (∀ r : Word, exec (.read16Relative16 r ovr) s = .next (Spec.answered s (Spec.okResponse r none)) ∧
      Spec.Encoded (.read16Relative16 r ovr) 1 3 (r.setWidth 32) 0) ∧
    (∀ r : Reg16,
      exec (.read16Register16 (.reg r) ovr) s = .next (Spec.answered s (Spec.okResponse (s.regs.get r) none)) ∧
      Spec.Encoded (.read16Register16 (.reg r) ovr) 1 7 (r.code.setWidth 32) 0) ∧
    (∀ n : BitVec 4, 12 ≤ n.toNat → ∃ t, exec (.read16Register16 (.bad n) ovr) s = .next t ∧
      t.response = some (Spec.fatalResponse .badRegister16 (encode (.read16Register16 (.bad n) ovr))) ∧
      t.regs = s.regs ∧ t.bus = s.bus ∧ t.busTrace = s.busTrace ∧
      Spec.Encoded (.read16Register16 (.bad n) ovr) 1 7 (n.setWidth 32) 0)

/-- 43_operand_read.md R176, R178, R180 to R182, R185 to R188: `read16` of the nine other kinds is `NA`. -/
def Obligations.Read16NotApplicableKinds : Prop :=
  ∀ (s : State) (ovr : SegOverride) (b : Byte) (w w2 : Word) (r8 : Reg8), s.halted = false →
    ∀ form ∈ Spec.read16NotApplicable b w w2 r8 ovr,
      exec form.1 s = .next (Spec.answered s Spec.naResponse) ∧ Spec.Encoded form.1 1 form.2.1 form.2.2 0

/-- 43_operand_read.md R184: `read16` of a memory operand makes one `read_u16` at the translated address; with `RegisterMode` it
is `FATAL` before any bus call. That a `FATAL` outcome is a next
state (DEDUCED, log 4) and that its word is the encoding of the instruction (DEDUCED, log 11) are the model's: the last clause
rests on both, the others on neither. -/
def Obligations.Read16Memory : Prop :=
  ∀ (s : State) (ovr : SegOverride) (d8 : Byte) (d16 : Word), s.halted = false →
    (∀ form ∈ Spec.read16Memory ovr d8 d16,
      (∃ seg off, calcEa form.2 ovr s.regs = some (seg, off) ∧
        exec form.1 s = .next (Spec.afterRead16 s (linearAddr seg off))) ∧
      Spec.Encoded form.1 1 8 (Operand.addressingMode form.2).payload 0) ∧
    (∃ t, exec (.read16RegisterMode ovr) s = .next t ∧
      t.response = some (Spec.fatalResponse .registerModeEa (encode (.read16RegisterMode ovr))) ∧
      t.regs = s.regs ∧ t.bus = s.bus ∧ t.busTrace = s.busTrace ∧
      Spec.Encoded (.read16RegisterMode ovr) 1 8 (0x00190000#32) 0)

/-! ## Write requests (44_operand_write.md) -/

/-- 44_operand_write.md R207: `write8` of a register half changes that half and nothing else. -/
def Obligations.Write8RegisterHalf : Prop :=
  ∀ (s : State) (ovr : SegOverride) (id : Reg8) (v : Byte), s.halted = false →
    exec (.write8Register8 id ovr v) s =
      .next (Spec.answered { s with regs := s.regs.setHalf id v } (Spec.okResponse 0 none)) ∧
    Spec.Encoded (.write8Register8 id ovr v) 2 6 (id.code.setWidth 32) (v.setWidth 16)

/-- 44_operand_write.md R201 to R206, R210 to R213: `write8` of these ten kinds is a no-op that ends `NA`. -/
def Obligations.Write8NotApplicableKinds : Prop :=
  ∀ (s : State) (ovr : SegOverride) (b : Byte) (w w2 : Word) (v : Byte), s.halted = false →
    ∀ form ∈ Spec.write8NotApplicable b w w2 ovr v,
      exec form.1 s = .next (Spec.answered s Spec.naResponse) ∧ Spec.Encoded form.1 2 form.2.1 form.2.2 (v.setWidth 16)

/-- 44_operand_write.md R209: `write8` of a memory operand makes one `write_u8` at the translated address; with `RegisterMode` it
is `FATAL` before any bus call. That a `FATAL` outcome is a next
state (DEDUCED, log 4) and that its word is the encoding of the instruction (DEDUCED, log 11) are the model's: the last clause
rests on both, the others on neither. -/
def Obligations.Write8Memory : Prop :=
  ∀ (s : State) (ovr : SegOverride) (d8 : Byte) (d16 : Word) (v : Byte), s.halted = false →
    (∀ form ∈ Spec.write8Memory ovr d8 d16 v,
      (∃ seg off, calcEa form.2 ovr s.regs = some (seg, off) ∧
        exec form.1 s = .next (Spec.afterWrite8 s (linearAddr seg off) v)) ∧
      Spec.Encoded form.1 2 8 (Operand.addressingMode form.2).payload (v.setWidth 16)) ∧
    (∃ t, exec (.write8RegisterMode ovr v) s = .next t ∧
      t.response = some (Spec.fatalResponse .registerModeEa (encode (.write8RegisterMode ovr v))) ∧
      t.regs = s.regs ∧ t.bus = s.bus ∧ t.busTrace = s.busTrace ∧
      Spec.Encoded (.write8RegisterMode ovr v) 2 8 (0x00190000#32) (v.setWidth 16))

/-- 44_operand_write.md R223: `write16` of any of the twelve registers replaces it and nothing else; an unrecognised identity is
`FATAL` with no register written. That a `FATAL` outcome is a next
state (DEDUCED, log 4) and that its word is the encoding of the instruction (DEDUCED, log 11) are the model's: the last clause
rests on both, the others on neither. -/
def Obligations.Write16Register : Prop :=
  ∀ (s : State) (ovr : SegOverride) (v : Word), s.halted = false →
    (∀ r : Reg16,
      exec (.write16Register16 (.reg r) ovr v) s =
        .next (Spec.answered { s with regs := s.regs.set r v } (Spec.okResponse 0 none)) ∧
      Spec.Encoded (.write16Register16 (.reg r) ovr v) 3 7 (r.code.setWidth 32) v) ∧
    (∀ n : BitVec 4, 12 ≤ n.toNat → ∃ t, exec (.write16Register16 (.bad n) ovr v) s = .next t ∧
      t.response = some (Spec.fatalResponse .badRegister16 (encode (.write16Register16 (.bad n) ovr v))) ∧
      t.regs = s.regs ∧ t.bus = s.bus ∧ t.busTrace = s.busTrace ∧
      Spec.Encoded (.write16Register16 (.bad n) ovr v) 3 7 (n.setWidth 32) v)

/-- 44_operand_write.md R216 to R221, R225 to R228: `write16` of these ten kinds is a no-op that ends `NA`. -/
def Obligations.Write16NotApplicableKinds : Prop :=
  ∀ (s : State) (ovr : SegOverride) (b : Byte) (w w2 : Word) (v : Word), s.halted = false →
    ∀ form ∈ Spec.write16NotApplicable b w w2 ovr v,
      exec form.1 s = .next (Spec.answered s Spec.naResponse) ∧ Spec.Encoded form.1 3 form.2.1 form.2.2 v

/-- 44_operand_write.md R224: `write16` of a memory operand makes one `write_u16` at the translated address; with `RegisterMode`
it is `FATAL` before any bus call. That a `FATAL` outcome is a next
state (DEDUCED, log 4) and that its word is the encoding of the instruction (DEDUCED, log 11) are the model's: the last clause
rests on both, the others on neither. -/
def Obligations.Write16Memory : Prop :=
  ∀ (s : State) (ovr : SegOverride) (d8 : Byte) (d16 : Word) (v : Word), s.halted = false →
    (∀ form ∈ Spec.write16Memory ovr d8 d16 v,
      (∃ seg off, calcEa form.2 ovr s.regs = some (seg, off) ∧
        exec form.1 s = .next (Spec.afterWrite16 s (linearAddr seg off) v)) ∧
      Spec.Encoded form.1 3 8 (Operand.addressingMode form.2).payload v) ∧
    (∃ t, exec (.write16RegisterMode ovr v) s = .next t ∧
      t.response = some (Spec.fatalResponse .registerModeEa (encode (.write16RegisterMode ovr v))) ∧
      t.regs = s.regs ∧ t.bus = s.bus ∧ t.busTrace = s.busTrace ∧
      Spec.Encoded (.write16RegisterMode ovr v) 3 8 (0x00190000#32) v)

/-- A register operand of the wrong width is `NA` under `read8`, `write8` and `write16`, an unrecognised `Register16` identity
included: the spec's inference for the writes (44_operand_write.md R208, R222, from 00_scope.md R11) and decision D13 for the
identity (43_operand_read.md R168; log 19). -/
def Obligations.WidthMismatchedRegistersAreNotApplicable : Prop :=
  ∀ (s : State) (ovr : SegOverride) (r8 : Reg8) (r16 : Reg16Id) (b : Byte) (w : Word), s.halted = false →
    ∀ form ∈ Spec.widthMismatches r8 r16 b w ovr,
      exec form.1 s = .next (Spec.answered s Spec.naResponse) ∧
        Spec.Encoded form.1 form.2.1 form.2.2.1 form.2.2.2.1 form.2.2.2.2

/-! ## Outcomes (60_exceptions.md) -/

/-- The whole state after `FATAL(REGISTER_MODE_EA)`: latch, record and response, registers and bus untouched, under every
operation and override. The latch and the record are the spec's decision D12 (60_exceptions.md R241, R244); that it is a next
state and that the word is the encoding are DEDUCED (log 4, log 11). -/
def Obligations.RegisterModeHalts : Prop :=
  ∀ (s : State) (ovr : SegOverride) (b : Byte) (w : Word), s.halted = false →
    ∀ i ∈ Spec.registerModeForms ovr b w, exec i s = .next (Spec.afterFatal s .registerModeEa (encode i))

/-- The whole state after `FATAL(BAD_REGISTER16)`. Decision D12 (60_exceptions.md R242, R244); that it is a next state and that the
word is the encoding are DEDUCED (log 4, log 11). -/
def Obligations.BadRegister16Halts : Prop :=
  ∀ (s : State) (n : BitVec 4) (ovr : SegOverride) (w : Word), s.halted = false → 12 ≤ n.toNat →
    ∀ i ∈ Spec.badRegisterForms n ovr w, exec i s = .next (Spec.afterFatal s .badRegister16 (encode i))

/-- 43_operand_read.md R189: a read changes no register, and `HALTED` and `DIAG` only by ending `FATAL`; the only thing outside
the block it can change is the bus, through the one bus read it makes. -/
def Obligations.ReadsChangeNoBlockState : Prop :=
  ∀ (i : Instr) (o : Operand) (ovr : SegOverride) (s t : State),
    (i.request = .read8 o ovr ∨ i.request = .read16 o ovr) → exec i s = .next t →
      t.regs = s.regs ∧ t.resetRegs = s.resetRegs ∧ t.inputs = s.inputs ∧
      ((∀ r, t.response = some r → r.status ≠ .fatal) → t.halted = s.halted ∧ t.diag = s.diag) ∧
      ((t.bus = s.bus ∧ t.busTrace = s.busTrace) ∨
        ∃ a, (t.busTrace = .readU8 a :: s.busTrace ∧ t.bus = (s.bus.readU8 a).2) ∨
          (t.busTrace = .readU16 a :: s.busTrace ∧ t.bus = (s.bus.readU16 a).2))

/-- 20_memory.md R41, R45, R46: a request makes one bus call exactly when its operand is an addressing mode other than
`RegisterMode`: the call of its operation and width, at the translated effective address; any other request makes none. -/
def Obligations.OneBusCallPerMemoryRequest : Prop :=
  ∀ (i : Instr) (s t : State), exec i s = .next t →
    ((∀ m, i.request.operand = .addressingMode m → m = .registerMode) →
      t.busTrace = s.busTrace ∧ t.bus = s.bus) ∧
    (∀ m, i.request.operand = .addressingMode m → m ≠ .registerMode →
      ∃ seg off, calcEa m i.request.override s.regs = some (seg, off) ∧
        t.busTrace = Spec.callAt (linearAddr seg off) i.request :: s.busTrace ∧
        t.bus = Spec.busAfter s.bus (Spec.callAt (linearAddr seg off) i.request))

/-- 60_exceptions.md R249: a request that ends `NA` has no value and changes nothing but the response. -/
def Obligations.NotApplicableChangesNothing : Prop :=
  ∀ (i : Instr) (s t : State) (r : Response), exec i s = .next t → t.response = some r → r.status = .na →
    r = Spec.naResponse ∧ t = Spec.answered s Spec.naResponse

/-- 60_exceptions.md R247, R248: when the one bus call of a memory request fails with `e`, the response is `BUS_ERROR(e)` with no
value and no cost, the registers, `HALTED` and `DIAG` are unchanged, and the bus is as the failed call left it. -/
def Obligations.BusErrorIsRecoverable : Prop :=
  ∀ (i : Instr) (s : State) (a : Addr) (e : BusError), s.halted = false →
    Spec.reaches i.request s.regs = some a → Spec.errorOf s.bus (Spec.callAt a i.request) = some e →
      exec i s = .next (Spec.afterCall s (Spec.callAt a i.request) (Spec.busAfter s.bus (Spec.callAt a i.request))
        (Spec.busErrorResponse e))

/-- A request that ends `FATAL` changes `HALTED`, `DIAG` and the response, and nothing else; `DIAG` holds its cause and its word.
Decision D12 (60_exceptions.md R244; log 4, log 11). -/
def Obligations.FatalIsPrecise : Prop :=
  ∀ (i : Instr) (s t : State) (r : Response), exec i s = .next t → t.response = some r → r.status = .fatal →
    r.cause ≠ .noFatal ∧ r.req = encode i ∧ t = Spec.afterFatal s r.cause (encode i)

/-- The cost in a response is the one the bus reported for the request's one call, and there is none without a successful call
(20_memory.md R58; that the absence is `none` is decision D20). -/
def Obligations.CostIsPassedThrough : Prop :=
  ∀ (i : Instr) (s t : State) (r : Response), exec i s = .next t → t.response = some r →
    r.cost = (Spec.reaches i.request s.regs).bind fun a => Spec.costOf s.bus (Spec.callAt a i.request)

/-- Fields of a response that are not meaningful are zero or none (30_encoding.md R78; decision D11, log 2). -/
def Obligations.MeaninglessResponseFieldsAreZero : Prop :=
  ∀ (i : Instr) (s t : State) (r : Response), exec i s = .next t → t.response = some r →
    (r.status ≠ .ok → r.value = 0 ∧ r.cost = none) ∧ (r.err.isSome = true ↔ r.status = .busError) ∧
    (r.status ≠ .fatal → r.cause = .noFatal ∧ r.req = 0) ∧
    (∀ o ovr, i.request = .read8 o ovr → r.value.extractLsb' 8 8 = 0) ∧
    ((∀ o ovr, i.request ≠ .read8 o ovr) → (∀ o ovr, i.request ≠ .read16 o ovr) → r.value = 0)

/-- Every request a ready block accepts completes with exactly one response; only `OK` of a register write changes a register;
the block is halted afterwards exactly on `FATAL` (60_exceptions.md R240; that `FATAL` gives a next state is log 4). -/
def Obligations.EveryAcceptedRequestIsAnswered : Prop :=
  ∀ (i : Instr) (s : State), s.halted = false →
    ∃ t r, exec i s = .next t ∧ t.response = some r ∧
      (t.halted = true ↔ r.status = .fatal) ∧ (r.status ≠ .fatal → t.diag = s.diag) ∧
      (r.status ≠ .ok → t.regs = s.regs)

/-- While `HALTED = 1` the block has no step for any request, and none while no input arrives; a reset and a change behind the bus
still land (60_exceptions.md R245, R246; decision D12; log 5). -/
def Obligations.HaltedBlockAcceptsNothing : Prop :=
  ∀ s : State, s.halted = true →
    (∀ i, exec i s = .fault .halted) ∧ (∀ w rest, s.inputs = .request w :: rest → step s = .fault .halted) ∧
    (s.inputs = [] → step s = .fault .halted) ∧
    (∀ b rest, s.inputs = .bus b :: rest → step s = .next { s with bus := b, inputs := rest }) ∧
    (∀ rest, s.inputs = .reset :: rest → ∃ t, step s = .next t ∧ t.halted = false)

/-- The registers change only by a `write8` of a half, by a `write16` of a legal identity, and by reset (10_state.md R28; that
there is no other writer is decision D28, log 21). -/
def Obligations.RegistersChangeOnlyByWritesAndReset : Prop :=
  ∀ s t : State, step s = .next t →
    t.regs = match s.inputs with
      | [] => s.regs
      | .request w :: _ => (match decode w with
        | .ok i => Spec.regsAfter s.regs i.request
        | .malformed _ => s.regs)
      | .reset :: _ => s.resetRegs
      | .bus _ :: _ => s.regs

/-- 10_state.md R36: a register write is complete when its request returns: the next request, whatever it is, runs in the state
with the new register. -/
def Obligations.NextRequestSeesTheRegisterWrite : Prop :=
  ∀ (s : State) (ovr : SegOverride) (i : Instr) (rest : List Input), s.halted = false → i.wf = true →
    (∀ (r : Reg16) (v : Word),
      s.inputs = .request (encode (.write16Register16 (.reg r) ovr v)) :: .request (encode i) :: rest →
      run 2 s = exec i (Spec.answered { s with regs := s.regs.set r v, inputs := rest } (Spec.okResponse 0 none))) ∧
    (∀ (id : Reg8) (v : Byte),
      s.inputs = .request (encode (.write8Register8 id ovr v)) :: .request (encode i) :: rest →
      run 2 s = exec i (Spec.answered { s with regs := s.regs.setHalf id v, inputs := rest } (Spec.okResponse 0 none)))

/-! ## Reset (70_reset_and_hazards.md) -/

/-- A step on anything but a request. Reset, from any state: the registers take `reset_regs`, `HALTED` and `DIAG` are cleared, the
bus is untouched (10_state.md R35, 70_reset_and_hazards.md R270, R271; decisions D15 and D30; the response and the inputs are
log 12). A bus is connected: nothing of the block changes (log 13). No input: a ready block waits (70_reset_and_hazards.md R272;
DESIGN CHOICE, log 10). -/
def Obligations.StepsWithoutARequest : Prop :=
  ∀ (s : State) (rest : List Input),
    (s.inputs = .reset :: rest → step s =
      .next { s with regs := s.resetRegs, halted := false, diag := ⟨.noFatal, 0⟩, response := none, inputs := rest }) ∧
    (∀ b, s.inputs = .bus b :: rest → step s = .next { s with bus := b, inputs := rest }) ∧
    (s.inputs = [] → s.halted = false → step s = .next s)

/-- The state after reset for every choice of `reset_regs`, of the bus and of the inputs (10_state.md R35; decision D15): the
registers hold the choice, the latch and the record are clear, and the block's invariants hold when the memory's do. -/
def Obligations.ResetStateMeetsTheInvariants : Prop :=
  (∀ (r : RegFile) (b : Bus) (ins : List Input), b.wf = true → ins.all Input.wf = true →
    (State.resetWith r b ins).regs = r ∧ (State.resetWith r b ins).halted = false ∧
    (State.resetWith r b ins).diag.cause.code = 0 ∧ (State.resetWith r b ins).diag.req = 0 ∧
    (State.resetWith r b ins).memoryCanonical = true ∧ (State.resetWith r b ins).haltRecorded = true) ∧
  State.reset.memoryCanonical = true ∧ State.reset.haltRecorded = true

/-! ## Invariants every step keeps -/

/-- Every step keeps the memory behind a reference bus canonical (the model's form of 20_memory.md R50's `mem`, log 8). -/
def Obligations.StepKeepsMemoryCanonical : Prop :=
  ∀ s t : State, s.memoryCanonical = true → step s = .next t → t.memoryCanonical = true

/-- Every step keeps `HALTED` and `DIAG` in agreement (10_state.md R31, R32; 60_exceptions.md R246; decision D12). -/
def Obligations.StepKeepsHaltRecorded : Prop :=
  ∀ s t : State, s.haltRecorded = true → step s = .next t → t.haltRecorded = true

/-- A run that ends well and meets no reset was never halted: not at its start, and not at any step on the way
(60_exceptions.md R245, R246; 70_reset_and_hazards.md R288(e); decision D12). -/
def Obligations.RunsThatEndWellNeverHalted : Prop :=
  ∀ (j k : Nat) (s t : State), s.noReset = true → EndsWell (j + k) s t →
    ∃ u, run j s = .next u ∧ u.halted = false ∧ EndsWell k u t

/-- Over a run of `k` steps the bus sees at most `k` calls, each after those of earlier steps: the calls so far stay as they
were, in order (20_memory.md R53, R45). -/
def Obligations.BusSeesCallsInRequestOrder : Prop :=
  ∀ (k : Nat) (s t : State), run k s = .next t →
    ∃ calls : List BusCall, t.busTrace = calls ++ s.busTrace ∧ calls.length ≤ k

/-- Nothing but the registers, the latch and the bus reaches a request's effect: two states that agree on these give the same
response and registers, latch and record after a fatal, bus, and bus call (10_state.md R20, R33, R34). -/
def Obligations.OnlyBlockAndBusReachTheOutcome : Prop :=
  ∀ (i : Instr) (s1 s2 t1 : State), s1.regs = s2.regs → s1.halted = s2.halted → s1.bus = s2.bus →
    exec i s1 = .next t1 → ∃ t2 new, exec i s2 = .next t2 ∧ t2.regs = t1.regs ∧ t2.halted = t1.halted ∧
      t2.bus = t1.bus ∧ t2.response = t1.response ∧ (t1.halted = true → t2.diag = t1.diag) ∧
      t1.busTrace = new ++ s1.busTrace ∧ t2.busTrace = new ++ s2.busTrace

/-! ## On the reference bus (20_memory.md R50), which a statement names as its premise, its memory canonical
(`StepKeepsMemoryCanonical`) -/

/-- A byte written through a memory operand is read back through it (20_memory.md R50, law L10). -/
def Obligations.RefBusByteReadsBack : Prop :=
  ∀ (s : State) (b : RefBus) (m : AddrMode) (ovr : SegOverride) (seg off : Word) (v : Byte), s.halted = false →
    s.bus = .ref b → b.mem.wf = true → calcEa m ovr s.regs = some (seg, off) → b.mapped (linearAddr seg off) = true →
    ∃ t u, exec (Instr.ofRequest (.write8 (.addressingMode m) ovr v)) s = .next t ∧
      exec (Instr.ofRequest (.read8 (.addressingMode m) ovr)) t = .next u ∧
      u.response = some (Spec.okResponse (v.setWidth 16) (some Config.refCost))

/-- A word written through a memory operand is read back through it, and its low byte lies at the operand's address
(20_memory.md R50, law L10; byte order decision D17, log 15). -/
def Obligations.RefBusWordReadsBack : Prop :=
  ∀ (s : State) (b : RefBus) (m : AddrMode) (ovr : SegOverride) (seg off : Word) (v : Word), s.halted = false →
    s.bus = .ref b → b.mem.wf = true → calcEa m ovr s.regs = some (seg, off) → b.wordMapped (linearAddr seg off) = true →
    ∃ t u w, exec (Instr.ofRequest (.write16 (.addressingMode m) ovr v)) s = .next t ∧
      exec (Instr.ofRequest (.read16 (.addressingMode m) ovr)) t = .next u ∧
      u.response = some (Spec.okResponse v (some Config.refCost)) ∧
      exec (Instr.ofRequest (.read8 (.addressingMode m) ovr)) t = .next w ∧
      w.response = some (Spec.okResponse ((v.extractLsb' 0 8).setWidth 16) (some Config.refCost))

/-- The frame of the memory writes on the reference bus: the address stored to is the translated effective address; every byte
outside the one or two bytes stored reads as before, the mapping stays, and the bytes stored are the value's, low byte first
(20_memory.md R50; the place of the second byte is decision D19, log 15). -/
def Obligations.RefBusStoreFrame : Prop :=
  ∀ (s : State) (b : RefBus) (m : AddrMode) (ovr : SegOverride) (seg off : Word), s.halted = false →
    s.bus = .ref b → b.mem.wf = true → calcEa m ovr s.regs = some (seg, off) →
    (∀ v : Byte, b.mapped (linearAddr seg off) = true →
      ∃ t c, exec (Instr.ofRequest (.write8 (.addressingMode m) ovr v)) s = .next t ∧ t.bus = .ref c ∧
        c.unmapped = b.unmapped ∧ c.byteAt (linearAddr seg off) = v ∧
        ∀ a, a ≠ linearAddr seg off → c.byteAt a = b.byteAt a) ∧
    (∀ v : Word, b.wordMapped (linearAddr seg off) = true →
      ∃ t c, exec (Instr.ofRequest (.write16 (.addressingMode m) ovr v)) s = .next t ∧ t.bus = .ref c ∧
        c.unmapped = b.unmapped ∧ c.byteAt (linearAddr seg off) = v.extractLsb' 0 8 ∧
        c.byteAt (linearAddr seg off + 1) = v.extractLsb' 8 8 ∧
        ∀ a, a ≠ linearAddr seg off → a ≠ linearAddr seg off + 1 → c.byteAt a = b.byteAt a)

/-- On the reference bus a read changes nothing behind the bus; an access fails, with `UNMAPPED`, exactly when a byte it touches is
not mapped; and a failed access changes nothing (20_memory.md R50, decision D16; the second byte of a word is decision D19,
log 15). -/
def Obligations.RefBusReadsAndFailuresChangeNothing : Prop :=
  ∀ (i : Instr) (s t : State) (b : RefBus), s.bus = .ref b → exec i s = .next t →
    ((∃ o ovr, i.request = .read8 o ovr ∨ i.request = .read16 o ovr) → t.bus = s.bus) ∧
    (∀ r e, t.response = some r → r.err = some e → e = Config.unmapped ∧ t.bus = s.bus) ∧
    (∀ a r, Spec.reaches i.request s.regs = some a → t.response = some r →
      (r.status = .busError ↔ ∃ c ∈ Spec.touched a i.request, b.mapped c = false))
end

