-- ==== Sys2Proof/Laws/Encoding.lean ====
section
/-! SUPPORT. The fields of a packed word, the code tables as inverses of each other, and the instruction of a request
(30_encoding.md R65 to R75). -/

namespace Sys2Proof

/-! ## Fields -/

theorem extract_append_hi {m n : Nat} (x : BitVec m) (y : BitVec n) (k : Nat) :
    (x ++ y).extractLsb' (n + k) m = x.extractLsb' k m := by
  ext i hi
  simp [BitVec.getLsbD_append, Nat.add_assoc]

@[simp] theorem extract_append_top {m n : Nat} (x : BitVec m) (y : BitVec n) : (x ++ y).extractLsb' n m = x := by
  ext i hi
  simp [BitVec.getLsbD_append, BitVec.getLsbD_eq_getElem hi]

@[simp] theorem extract_append_bottom {m n : Nat} (x : BitVec m) (y : BitVec n) : (x ++ y).extractLsb' 0 n = y := by
  ext i hi
  simp [BitVec.getLsbD_append, hi]

/-- Two neighbouring parts of one word, put together again, are the part they make up; of all of it, the word. -/
theorem append_extract {m n : Nat} (x : BitVec (m + n)) : x.extractLsb' n m ++ x.extractLsb' 0 n = x := by
  rw [BitVec.extractLsb'_append_extractLsb'_eq_extractLsb' (by simp)]
  exact BitVec.extractLsb'_eq_self

section
variable (op : BitVec 2) (ovr : BitVec 3) (kind : BitVec 4) (mbz : BitVec 7) (p : BitVec 32) (wd : Word)

@[simp] theorem opField_pack : opField (packFields op ovr kind mbz p wd) = op := by
  ext i hi
  simp only [opField, packFields, BitVec.getElem_extractLsb', BitVec.getLsbD_append]
  simp [show ¬ 62 + i < 16 by omega, show ¬ 62 + i - 16 < 32 by omega, show ¬ 62 + i - 16 - 32 < 7 by omega,
    show ¬ 62 + i - 16 - 32 - 7 < 4 by omega, show ¬ 62 + i - 16 - 32 - 7 - 4 < 3 by omega,
    show 62 + i - 16 - 32 - 7 - 4 - 3 = i by omega, BitVec.getLsbD_eq_getElem hi]

@[simp] theorem ovrField_pack : ovrField (packFields op ovr kind mbz p wd) = ovr := by
  ext i hi
  simp only [ovrField, packFields, BitVec.getElem_extractLsb', BitVec.getLsbD_append]
  simp [show ¬ 59 + i < 16 by omega, show ¬ 59 + i - 16 < 32 by omega, show ¬ 59 + i - 16 - 32 < 7 by omega,
    show ¬ 59 + i - 16 - 32 - 7 < 4 by omega, show 59 + i - 16 - 32 - 7 - 4 = i by omega, hi]

@[simp] theorem kindField_pack : kindField (packFields op ovr kind mbz p wd) = kind := by
  ext i hi
  simp only [kindField, packFields, BitVec.getElem_extractLsb', BitVec.getLsbD_append]
  simp [show ¬ 55 + i < 16 by omega, show ¬ 55 + i - 16 < 32 by omega, show ¬ 55 + i - 16 - 32 < 7 by omega,
    show 55 + i - 16 - 32 - 7 = i by omega, hi]

@[simp] theorem mbzField_pack : mbzField (packFields op ovr kind mbz p wd) = mbz := by
  ext i hi
  simp only [mbzField, packFields, BitVec.getElem_extractLsb', BitVec.getLsbD_append]
  simp [show ¬ 48 + i < 16 by omega, show ¬ 48 + i - 16 < 32 by omega, show 48 + i - 16 - 32 = i by omega, hi]

@[simp] theorem payloadField_pack : payloadField (packFields op ovr kind mbz p wd) = p := by
  ext i hi
  simp only [payloadField, packFields, BitVec.getElem_extractLsb', BitVec.getLsbD_append]
  simp [show ¬ 16 + i < 16 by omega, show 16 + i - 16 = i by omega, hi]

@[simp] theorem wdataField_pack : wdataField (packFields op ovr kind mbz p wd) = wd := by
  ext i hi
  simp only [wdataField, packFields, BitVec.getElem_extractLsb', BitVec.getLsbD_append]
  simp [hi]

end

/-- A word is its six fields packed. -/
theorem pack_fields (w : ReqWord) :
    packFields (opField w) (ovrField w) (kindField w) (mbzField w) (payloadField w) (wdataField w) = w := by
  unfold packFields opField ovrField kindField mbzField payloadField wdataField
  rw [BitVec.extractLsb'_append_extractLsb'_eq_extractLsb' (by rfl),
    BitVec.extractLsb'_append_extractLsb'_eq_extractLsb' (by rfl),
    BitVec.extractLsb'_append_extractLsb'_eq_extractLsb' (by rfl),
    BitVec.extractLsb'_append_extractLsb'_eq_extractLsb' (by rfl),
    BitVec.extractLsb'_append_extractLsb'_eq_extractLsb' (by rfl)]
  exact BitVec.extractLsb'_eq_self

/-! ## Code tables -/

@[simp] theorem SegOverride.ofCode_code (v : SegOverride) : SegOverride.ofCode v.code = some v := by cases v <;> rfl

@[simp] theorem Reg8.ofCode_code (r : Reg8) : Reg8.ofCode r.code = r := by cases r <;> rfl

@[simp] theorem EaBase.ofCode_code (b : EaBase) : EaBase.ofCode b.code = b := by cases b <;> rfl

@[simp] theorem Reg8.code_ofCode : ∀ c : BitVec 3, (Reg8.ofCode c).code = c := by decide

@[simp] theorem EaBase.code_ofCode : ∀ c : BitVec 3, (EaBase.ofCode c).code = c := by decide

@[simp] theorem Reg16Id.code_ofCode : ∀ c : BitVec 4, (Reg16Id.ofCode c).code = c := by decide

@[simp] theorem Reg16Id.wf_ofCode : ∀ c : BitVec 4, (Reg16Id.ofCode c).wf = true := by decide

theorem Reg16Id.ofCode_bad : ∀ n : BitVec 4, 12 ≤ n.toNat → Reg16Id.ofCode n = .bad n := by decide

/-- A well-formed identity is read back from its code. -/
theorem Reg16Id.ofCode_code (id : Reg16Id) (h : id.wf = true) : Reg16Id.ofCode id.code = id := by
  cases id with
  | reg r => cases r <;> rfl
  | bad n => exact Reg16Id.ofCode_bad n (by simpa [Reg16Id.wf] using h)

/-- An override is read exactly from its own code. -/
theorem SegOverride.code_of_ofCode : ∀ (c : BitVec 3) (v : SegOverride), SegOverride.ofCode c = some v → v.code = c := by
  intro c v
  revert c
  cases v <;> decide

/-! ## Pieces of a decoding -/

theorem Decoded.bind_eq_ok {α β : Type} {x : Decoded α} {f : α → Decoded β} {y : β} (h : x.bind f = .ok y) :
    ∃ a, x = .ok a ∧ f a = .ok y := by
  cases x with
  | ok a => exact ⟨a, rfl, h⟩
  | malformed why => exact absurd h (by simp [Decoded.bind])

theorem requireZero_eq_ok {α : Type} {n : Nat} {bits : BitVec n} {why : Malformed} {x y : α}
    (h : requireZero bits why x = .ok y) : bits = 0 ∧ x = y := by
  unfold requireZero at h
  split at h
  · rename_i hz; exact ⟨hz, by simpa using h⟩
  · exact absurd h (by simp)

@[simp] theorem requireZero_zero {α : Type} {n : Nat} (why : Malformed) (x : α) :
    requireZero (0 : BitVec n) why x = .ok x := by
  simp [requireZero]

/-! ## Requests and instructions -/

/-- Every instruction is the instruction of its request. -/
@[simp] theorem Instr.ofRequest_request (i : Instr) : Instr.ofRequest i.request = i := by cases i <;> rfl

/-- Every request is the request of its instruction. -/
@[simp] theorem Instr.request_ofRequest (r : Request) : (Instr.ofRequest r).request = r := by
  cases r with
  | read8 o v => cases o with
    | addressingMode m => cases m with
      | plain b => cases b <;> rfl
      | disp8 b d => cases b <;> rfl
      | disp16 b d => cases b <;> rfl
      | direct d => rfl
      | registerMode => rfl
    | _ => rfl
  | read16 o v => cases o with
    | addressingMode m => cases m with
      | plain b => cases b <;> rfl
      | disp8 b d => cases b <;> rfl
      | disp16 b d => cases b <;> rfl
      | direct d => rfl
      | registerMode => rfl
    | _ => rfl
  | write8 o v x => cases o with
    | addressingMode m => cases m with
      | plain b => cases b <;> rfl
      | disp8 b d => cases b <;> rfl
      | disp16 b d => cases b <;> rfl
      | direct d => rfl
      | registerMode => rfl
    | _ => rfl
  | write16 o v x => cases o with
    | addressingMode m => cases m with
      | plain b => cases b <;> rfl
      | disp8 b d => cases b <;> rfl
      | disp16 b d => cases b <;> rfl
      | direct d => rfl
      | registerMode => rfl
    | _ => rfl

/-- An instruction is well-formed exactly when its request is. -/
theorem Instr.wf_request (i : Instr) : i.request.wf = i.wf := by cases i <;> rfl

/-! ## One direction: a term is read back from its code -/

@[simp] theorem extract_mode_payload (c : BitVec 5) (d : Word) : (0#11 ++ c ++ d : BitVec 32).extractLsb' 16 5 = c := by
  ext i hi
  simp only [BitVec.getElem_extractLsb', BitVec.getLsbD_append]
  simp [hi]

@[simp] theorem extract_mode_rest (c : BitVec 5) (d : Word) : (0#11 ++ c ++ d : BitVec 32).extractLsb' 21 11 = 0 := by
  ext i hi
  simp only [BitVec.getElem_extractLsb', BitVec.getLsbD_append]
  simp [show ¬ 21 + i < 16 by omega, show ¬ 21 + i - 16 < 5 by omega]

/-- An addressing mode is read back from its code and its displacement field. -/
theorem AddrMode.ofCode_code (m : AddrMode) : AddrMode.ofCode m.code m.dispField = .ok m := by
  cases m with
  | plain b => cases b <;> simp [AddrMode.ofCode, AddrMode.code, AddrMode.dispField, EaBase.code, EaBase.ofCode, requireZero]
  | disp8 b d =>
    have h1 : (0#8 ++ d).extractLsb' 8 8 = 0 := extract_append_top _ _
    have h2 : (0#8 ++ d).extractLsb' 0 8 = d := extract_append_bottom _ _
    cases b <;> simp [AddrMode.ofCode, AddrMode.code, AddrMode.dispField, h1, h2, EaBase.code, EaBase.ofCode, requireZero]
  | disp16 b d => cases b <;> simp [AddrMode.ofCode, AddrMode.code, AddrMode.dispField, EaBase.code, EaBase.ofCode]
  | direct d => simp [AddrMode.ofCode, AddrMode.code, AddrMode.dispField]
  | registerMode => simp [AddrMode.ofCode, AddrMode.code, AddrMode.dispField, requireZero]

/-- A well-formed operand is read back from its kind and its payload. -/
theorem Operand.ofPayload_payload (o : Operand) (h : o.wf = true) : Operand.ofPayload o.kindCode o.payload = .ok o := by
  cases o with
  | addressingMode m =>
    have h1 : (0#11 ++ m.code ++ m.dispField : BitVec 32).extractLsb' 0 16 = m.dispField := extract_append_bottom _ _
    simp [Operand.ofPayload, Operand.kindCode, Operand.payload, h1, AddrMode.ofCode_code, requireZero, Decoded.bind]
  | register16 id =>
    have h1 : (0#28 ++ id.code : BitVec 32).extractLsb' 0 4 = id.code := extract_append_bottom _ _
    have h2 : (0#28 ++ id.code : BitVec 32).extractLsb' 4 28 = 0 := extract_append_top _ _
    simp [Operand.ofPayload, Operand.kindCode, Operand.payload, h1, h2, requireZero]
    exact Reg16Id.ofCode_code id h
  | register8 id =>
    have h1 : (0#29 ++ id.code : BitVec 32).extractLsb' 0 3 = id.code := extract_append_bottom _ _
    have h2 : (0#29 ++ id.code : BitVec 32).extractLsb' 3 29 = 0 := extract_append_top _ _
    simp [Operand.ofPayload, Operand.kindCode, Operand.payload, h1, h2, requireZero]
  | farAddress s o =>
    have h1 : (s ++ o : BitVec 32).extractLsb' 0 16 = o := extract_append_bottom _ _
    have h2 : (s ++ o : BitVec 32).extractLsb' 16 16 = s := extract_append_top _ _
    simp [Operand.ofPayload, Operand.kindCode, Operand.payload, h1, h2]
  | immediate8 v | relative8 v =>
    have h1 : (0#24 ++ v : BitVec 32).extractLsb' 0 8 = v := extract_append_bottom _ _
    have h2 : (0#24 ++ v : BitVec 32).extractLsb' 8 24 = 0 := extract_append_top _ _
    simp [Operand.ofPayload, Operand.kindCode, Operand.payload, h1, h2, requireZero]
  | immediate16 v | relative16 v | offset8 v | offset16 v | nearAddress v =>
    have h1 : (0#16 ++ v : BitVec 32).extractLsb' 0 16 = v := extract_append_bottom _ _
    have h2 : (0#16 ++ v : BitVec 32).extractLsb' 16 16 = 0 := extract_append_top _ _
    simp [Operand.ofPayload, Operand.kindCode, Operand.payload, h1, h2, requireZero]
  | noOperand | invalidOperand => rfl

/-- The operation and the write data of a request are read back from their fields. -/
theorem Request.ofFields_fields (r : Request) : Request.ofFields r.opCode r.operand r.override r.wdata = .ok r := by
  cases r with
  | write8 o v x =>
    have h1 : (0#8 ++ x).extractLsb' 8 8 = 0 := extract_append_top _ _
    have h2 : (0#8 ++ x).extractLsb' 0 8 = x := extract_append_bottom _ _
    simp [Request.ofFields, Request.opCode, Request.wdata, Request.operand, Request.override, requireZero, h1, h2]
  | _ => simp [Request.ofFields, Request.opCode, Request.wdata, Request.operand, Request.override, requireZero]

/-! ## The other direction: what is read has the code it was read from -/

theorem zero_append_bottom8 {x : Word} (h : x.extractLsb' 8 8 = 0) : 0#8 ++ x.extractLsb' 0 8 = x := by
  have := append_extract (m := 8) (n := 8) x
  rwa [h] at this

theorem zero_append_payload {m n : Nat} {p : BitVec (m + n)} (h : p.extractLsb' n m = 0) :
    0#m ++ p.extractLsb' 0 n = p := by
  have := append_extract p
  rwa [h] at this

/-- What is read from a mode's code and displacement field has them. -/
theorem AddrMode.code_of_ofCode {c : BitVec 5} {d : Word} {m : AddrMode} (h : AddrMode.ofCode c d = .ok m) :
    m.code = c ∧ m.dispField = d := by
  have k0 : ∀ c : BitVec 5, (c.extractLsb' 3 2).toNat = 0 → 0#2 ++ (EaBase.ofCode (c.extractLsb' 0 3)).code = c := by decide
  have k1 : ∀ c : BitVec 5, (c.extractLsb' 3 2).toNat = 1 → 1#2 ++ (EaBase.ofCode (c.extractLsb' 0 3)).code = c := by decide
  have k2 : ∀ c : BitVec 5, (c.extractLsb' 3 2).toNat = 2 → 2#2 ++ (EaBase.ofCode (c.extractLsb' 0 3)).code = c := by decide
  have k3 : ∀ c : BitVec 5, (c.extractLsb' 3 2).toNat ≠ 0 → (c.extractLsb' 3 2).toNat ≠ 1 → (c.extractLsb' 3 2).toNat ≠ 2 →
      ((c.extractLsb' 0 3).toNat = 0 → 24 = c) ∧ ((c.extractLsb' 0 3).toNat = 1 → 25 = c) := by decide
  unfold AddrMode.ofCode at h
  split at h
  · rename_i hc
    obtain ⟨hd, rfl⟩ := requireZero_eq_ok h
    exact ⟨k0 c hc, hd.symm⟩
  · rename_i hc
    obtain ⟨hd, rfl⟩ := requireZero_eq_ok h
    exact ⟨k1 c hc, zero_append_bottom8 hd⟩
  · rename_i hc
    obtain rfl : _ = m := by simpa using h
    exact ⟨k2 c hc, rfl⟩
  · rename_i h0 h1 h2
    have hk := k3 c h0 h1 h2
    split at h
    · rename_i hl
      obtain rfl : _ = m := by simpa using h
      exact ⟨hk.1 hl, rfl⟩
    · rename_i hl
      obtain ⟨hd, rfl⟩ := requireZero_eq_ok h
      exact ⟨hk.2 hl, hd.symm⟩
    · exact absurd h (by simp)

/-- What is read from a kind and a payload has them, and is well-formed. -/
theorem Operand.payload_of_ofPayload {k : BitVec 4} {p : BitVec 32} {o : Operand} (h : Operand.ofPayload k p = .ok o) :
    o.kindCode = k ∧ o.payload = p ∧ o.wf = true := by
  have hw : ∀ c : BitVec 4, (Reg16Id.ofCode c).wf = true := by decide
  unfold Operand.ofPayload at h
  split at h
  · rename_i hk
    obtain ⟨hp, rfl⟩ := requireZero_eq_ok h
    exact ⟨BitVec.eq_of_toNat_eq hk.symm, zero_append_payload (m := 24) (n := 8) hp, rfl⟩
  · rename_i hk
    obtain ⟨hp, rfl⟩ := requireZero_eq_ok h
    exact ⟨BitVec.eq_of_toNat_eq hk.symm, zero_append_payload (m := 16) (n := 16) hp, rfl⟩
  · rename_i hk
    obtain ⟨hp, rfl⟩ := requireZero_eq_ok h
    exact ⟨BitVec.eq_of_toNat_eq hk.symm, zero_append_payload (m := 24) (n := 8) hp, rfl⟩
  · rename_i hk
    obtain ⟨hp, rfl⟩ := requireZero_eq_ok h
    exact ⟨BitVec.eq_of_toNat_eq hk.symm, zero_append_payload (m := 16) (n := 16) hp, rfl⟩
  · rename_i hk
    obtain ⟨hp, rfl⟩ := requireZero_eq_ok h
    exact ⟨BitVec.eq_of_toNat_eq hk.symm, zero_append_payload (m := 16) (n := 16) hp, rfl⟩
  · rename_i hk
    obtain ⟨hp, rfl⟩ := requireZero_eq_ok h
    exact ⟨BitVec.eq_of_toNat_eq hk.symm, zero_append_payload (m := 16) (n := 16) hp, rfl⟩
  · rename_i hk
    obtain ⟨hp, rfl⟩ := requireZero_eq_ok h
    refine ⟨BitVec.eq_of_toNat_eq hk.symm, ?_, rfl⟩
    rw [Operand.payload, Reg8.code_ofCode]
    exact zero_append_payload (m := 29) (n := 3) hp
  · rename_i hk
    obtain ⟨hp, rfl⟩ := requireZero_eq_ok h
    refine ⟨BitVec.eq_of_toNat_eq hk.symm, ?_, hw _⟩
    rw [Operand.payload, Reg16Id.code_ofCode]
    exact zero_append_payload (m := 28) (n := 4) hp
  · rename_i hk
    obtain ⟨_, h0, h1⟩ := Decoded.bind_eq_ok h
    obtain ⟨m, h2, h3⟩ := Decoded.bind_eq_ok h1
    obtain rfl : _ = o := by simpa using h3
    obtain ⟨h0, -⟩ := requireZero_eq_ok h0
    obtain ⟨hc, hd⟩ := AddrMode.code_of_ofCode h2
    refine ⟨BitVec.eq_of_toNat_eq hk.symm, ?_, rfl⟩
    simp only [Operand.payload, hc, hd]
    rw [show (0#11) = p.extractLsb' 21 11 from h0.symm, BitVec.extractLsb'_append_extractLsb'_eq_extractLsb' (by rfl),
      BitVec.extractLsb'_append_extractLsb'_eq_extractLsb' (by rfl)]
    exact BitVec.extractLsb'_eq_self
  · rename_i hk
    obtain ⟨hp, rfl⟩ := requireZero_eq_ok h
    exact ⟨BitVec.eq_of_toNat_eq hk.symm, zero_append_payload (m := 16) (n := 16) hp, rfl⟩
  · rename_i hk
    obtain rfl : _ = o := by simpa using h
    exact ⟨BitVec.eq_of_toNat_eq hk.symm, append_extract (m := 16) (n := 16) p, rfl⟩
  · rename_i hk
    obtain ⟨hp, rfl⟩ := requireZero_eq_ok h
    exact ⟨BitVec.eq_of_toNat_eq hk.symm, hp.symm, rfl⟩
  · rename_i hk
    obtain ⟨hp, rfl⟩ := requireZero_eq_ok h
    exact ⟨BitVec.eq_of_toNat_eq hk.symm, hp.symm, rfl⟩
  · exact absurd h (by simp)

/-- What is read from the operation and the write data has them. -/
theorem Request.fields_of_ofFields {op : BitVec 2} {o : Operand} {ovr : SegOverride} {wd : Word} {r : Request}
    (h : Request.ofFields op o ovr wd = .ok r) :
    r.opCode = op ∧ r.operand = o ∧ r.override = ovr ∧ r.wdata = wd := by
  unfold Request.ofFields at h
  split at h
  · rename_i hk
    obtain ⟨hd, rfl⟩ := requireZero_eq_ok h
    exact ⟨BitVec.eq_of_toNat_eq hk.symm, rfl, rfl, hd.symm⟩
  · rename_i hk
    obtain ⟨hd, rfl⟩ := requireZero_eq_ok h
    exact ⟨BitVec.eq_of_toNat_eq hk.symm, rfl, rfl, hd.symm⟩
  · rename_i hk
    obtain ⟨hd, rfl⟩ := requireZero_eq_ok h
    exact ⟨BitVec.eq_of_toNat_eq hk.symm, rfl, rfl, zero_append_bottom8 hd⟩
  · rename_i h0 h1 h2
    obtain rfl : _ = r := by simpa using h
    have k3 : ∀ c : BitVec 2, c.toNat ≠ 0 → c.toNat ≠ 1 → c.toNat ≠ 2 → 3 = c := by decide
    exact ⟨k3 op h0 h1 h2, rfl, rfl, rfl⟩

end Sys2Proof
end

