-- ==== Sys2Proof/Laws/State.lean ====
section
/-! SUPPORT. What each update of the state does to each of its fields. -/

namespace Sys2Proof.Machine

@[simp] theorem State.respond_regs (s : State) (r : Response) : (s.respond r).regs = s.regs := rfl
@[simp] theorem State.respond_halted (s : State) (r : Response) : (s.respond r).halted = s.halted := rfl
@[simp] theorem State.respond_diag (s : State) (r : Response) : (s.respond r).diag = s.diag := rfl
@[simp] theorem State.respond_bus (s : State) (r : Response) : (s.respond r).bus = s.bus := rfl
@[simp] theorem State.respond_resetRegs (s : State) (r : Response) : (s.respond r).resetRegs = s.resetRegs := rfl
@[simp] theorem State.respond_inputs (s : State) (r : Response) : (s.respond r).inputs = s.inputs := rfl
@[simp] theorem State.respond_response (s : State) (r : Response) : (s.respond r).response = some r := rfl
@[simp] theorem State.respond_busTrace (s : State) (r : Response) : (s.respond r).busTrace = s.busTrace := rfl

@[simp] theorem State.called_regs (s : State) (c : BusCall) (b : Bus) : (s.called c b).regs = s.regs := rfl
@[simp] theorem State.called_halted (s : State) (c : BusCall) (b : Bus) : (s.called c b).halted = s.halted := rfl
@[simp] theorem State.called_diag (s : State) (c : BusCall) (b : Bus) : (s.called c b).diag = s.diag := rfl
@[simp] theorem State.called_bus (s : State) (c : BusCall) (b : Bus) : (s.called c b).bus = b := rfl
@[simp] theorem State.called_resetRegs (s : State) (c : BusCall) (b : Bus) : (s.called c b).resetRegs = s.resetRegs := rfl
@[simp] theorem State.called_inputs (s : State) (c : BusCall) (b : Bus) : (s.called c b).inputs = s.inputs := rfl
@[simp] theorem State.called_response (s : State) (c : BusCall) (b : Bus) : (s.called c b).response = s.response := rfl
@[simp] theorem State.called_busTrace (s : State) (c : BusCall) (b : Bus) : (s.called c b).busTrace = c :: s.busTrace := rfl

@[simp] theorem fatalEntry_regs (s : State) (c : Cause) (w : ReqWord) : (fatalEntry c w s).regs = s.regs := rfl
@[simp] theorem fatalEntry_halted (s : State) (c : Cause) (w : ReqWord) : (fatalEntry c w s).halted = true := rfl
@[simp] theorem fatalEntry_diag (s : State) (c : Cause) (w : ReqWord) : (fatalEntry c w s).diag = ⟨c, w⟩ := rfl
@[simp] theorem fatalEntry_bus (s : State) (c : Cause) (w : ReqWord) : (fatalEntry c w s).bus = s.bus := rfl
@[simp] theorem fatalEntry_resetRegs (s : State) (c : Cause) (w : ReqWord) : (fatalEntry c w s).resetRegs = s.resetRegs := rfl
@[simp] theorem fatalEntry_inputs (s : State) (c : Cause) (w : ReqWord) : (fatalEntry c w s).inputs = s.inputs := rfl
@[simp] theorem fatalEntry_response (s : State) (c : Cause) (w : ReqWord) : (fatalEntry c w s).response = some (Response.fatalled c w) := rfl
@[simp] theorem fatalEntry_busTrace (s : State) (c : Cause) (w : ReqWord) : (fatalEntry c w s).busTrace = s.busTrace := rfl

@[simp] theorem applyReset_regs (s : State) : (applyReset s).regs = s.resetRegs := rfl
@[simp] theorem applyReset_halted (s : State) : (applyReset s).halted = false := rfl
@[simp] theorem applyReset_diag (s : State) : (applyReset s).diag = ⟨.noFatal, 0⟩ := rfl
@[simp] theorem applyReset_bus (s : State) : (applyReset s).bus = s.bus := rfl
@[simp] theorem applyReset_resetRegs (s : State) : (applyReset s).resetRegs = s.resetRegs := rfl
@[simp] theorem applyReset_inputs (s : State) : (applyReset s).inputs = s.inputs := rfl
@[simp] theorem applyReset_response (s : State) : (applyReset s).response = none := rfl
@[simp] theorem applyReset_busTrace (s : State) : (applyReset s).busTrace = s.busTrace := rfl

@[simp] theorem placeRequest_regs (s : State) (w : ReqWord) : (placeRequest w s).regs = s.regs := rfl
@[simp] theorem placeRequest_halted (s : State) (w : ReqWord) : (placeRequest w s).halted = s.halted := rfl
@[simp] theorem placeRequest_diag (s : State) (w : ReqWord) : (placeRequest w s).diag = s.diag := rfl
@[simp] theorem placeRequest_bus (s : State) (w : ReqWord) : (placeRequest w s).bus = s.bus := rfl
@[simp] theorem placeRequest_resetRegs (s : State) (w : ReqWord) : (placeRequest w s).resetRegs = s.resetRegs := rfl
@[simp] theorem placeRequest_inputs (s : State) (w : ReqWord) : (placeRequest w s).inputs = .request w :: s.inputs := rfl
@[simp] theorem placeRequest_response (s : State) (w : ReqWord) : (placeRequest w s).response = s.response := rfl
@[simp] theorem placeRequest_busTrace (s : State) (w : ReqWord) : (placeRequest w s).busTrace = s.busTrace := rfl

/-- After reset the registers are the parameter. -/
@[simp] theorem State.resetWith_regs (r : RegFile) (b : Bus) (ins : List Input) : (State.resetWith r b ins).regs = r := rfl
@[simp] theorem State.resetWith_halted (r : RegFile) (b : Bus) (ins : List Input) :
    (State.resetWith r b ins).halted = false := rfl
@[simp] theorem State.resetWith_diag (r : RegFile) (b : Bus) (ins : List Input) :
    (State.resetWith r b ins).diag = ⟨.noFatal, 0⟩ := rfl
@[simp] theorem State.resetWith_bus (r : RegFile) (b : Bus) (ins : List Input) : (State.resetWith r b ins).bus = b := rfl
@[simp] theorem State.resetWith_inputs (r : RegFile) (b : Bus) (ins : List Input) :
    (State.resetWith r b ins).inputs = ins := rfl

end Sys2Proof.Machine
end

