-- ==== Sys2Proof/Laws/Access.lean ====
section
/-! SUPPORT. Everything `exec` and `step` can do, said once: `exec` as the Operand Accessor on the instruction's request, the cases
of an accepted request's effect, and the cases of a step. -/

namespace Sys2Proof.Machine

/-- What a request does in a ready block. -/
def effect (r : Request) (s : State) : State :=
  match r with
  | .read8 o ovr => read8Effect o ovr s
  | .read16 o ovr => read16Effect o ovr s
  | .write8 o ovr v => write8Effect o ovr v s
  | .write16 o ovr v => write16Effect o ovr v s

/-- The one access a request with a memory operand makes at an address. -/
def memEffect (r : Request) (a : Addr) (s : State) : State :=
  match r with
  | .read8 _ _ => memRead8 a s
  | .read16 _ _ => memRead16 a s
  | .write8 _ _ v => memWrite8 v a s
  | .write16 _ _ v => memWrite16 v a s

/-- `exec` accepts the instruction's request and has its effect. -/
theorem exec_eq_accept (i : Instr) (s : State) : exec i s = accept s (effect i.request s) := by
  cases i <;> rfl

theorem accept_ready {s : State} (h : s.halted = false) (t : State) : accept s t = .next t := by
  simp [accept, h]

theorem accept_halted {s : State} (h : s.halted = true) (t : State) : accept s t = .fault .halted := by
  simp [accept, h]

theorem accept_eq_next {s t u : State} (h : accept s t = .next u) : s.halted = false ∧ t = u := by
  unfold accept at h
  split at h
  · exact absurd h (by simp)
  · rename_i hn; exact ⟨by simpa using hn, by simpa using h⟩

/-- A ready block executes every instruction. -/
theorem exec_ready {s : State} (h : s.halted = false) (i : Instr) : exec i s = .next (effect i.request s) := by
  rw [exec_eq_accept, accept_ready h]

theorem exec_halted {s : State} (h : s.halted = true) (i : Instr) : exec i s = .fault .halted := by
  rw [exec_eq_accept, accept_halted h]

/-- A next state comes from a ready block, and is the effect of the request. -/
theorem exec_eq_next {i : Instr} {s t : State} (h : exec i s = .next t) :
    s.halted = false ∧ t = effect i.request s := by
  rw [exec_eq_accept] at h
  obtain ⟨hs, ht⟩ := accept_eq_next h
  exact ⟨hs, ht.symm⟩

/-- A memory mode has an effective address. -/
theorem calcEa_memory {m : AddrMode} (h : m ≠ .registerMode) (ovr : SegOverride) (x : RegFile) :
    ∃ seg off, calcEa m ovr x = some (seg, off) := by
  cases m with
  | registerMode => exact absurd rfl h
  | _ => exact ⟨_, _, rfl⟩

@[simp] theorem calcEa_registerMode (ovr : SegOverride) (x : RegFile) : calcEa .registerMode ovr x = none := rfl

theorem calcEa_some {m : AddrMode} {ovr : SegOverride} {x : RegFile} {p : Word × Word} (h : calcEa m ovr x = some p) :
    m ≠ .registerMode := by
  rintro rfl
  exact absurd h (by simp)

/-- The memory path at an effective address is the request's one access there. -/
theorem effect_memory {r : Request} {m : AddrMode} {s : State} {seg off : Word} (hm : r.operand = .addressingMode m)
    (hea : calcEa m r.override s.regs = some (seg, off)) : effect r s = memEffect r (linearAddr seg off) s := by
  cases r <;> simp only [Request.operand, Request.override] at hm hea <;> subst hm <;>
    simp [effect, memEffect, read8Effect, read16Effect, write8Effect, write16Effect, atAddress, hea]

/-- The memory path without an effective address is fatal. -/
theorem effect_registerMode {r : Request} {s : State} (hm : r.operand = .addressingMode .registerMode) :
    effect r s = fatalEntry .registerModeEa (encodeRequest r) s := by
  cases r <;> simp only [Request.operand] at hm <;> subst hm <;> rfl

/-- Everything a request without a memory operand can do. -/
inductive PlainEffect (r : Request) (s : State) : State → Prop where
  /-- An 8-bit value. -/
  | value8 (o : Operand) (w : SegOverride) (v : Byte) (h : r = .read8 o w) :
      PlainEffect r s (s.respond (Response.okRead8 v none))
  /-- A 16-bit value. -/
  | value16 (o : Operand) (w : SegOverride) (v : Word) (h : r = .read16 o w) :
      PlainEffect r s (s.respond (Response.okRead16 v none))
  /-- Not applicable. -/
  | na : PlainEffect r s (s.respond Response.notApplicable)
  /-- A half is written. -/
  | half (id : Reg8) (w : SegOverride) (v : Byte) (h : r = .write8 (.register8 id) w v) :
      PlainEffect r s ({ s with regs := s.regs.setHalf id v }.respond (Response.okWrite none))
  /-- A register is written. -/
  | reg (q : Reg16) (w : SegOverride) (v : Word) (h : r = .write16 (.register16 (.reg q)) w v) :
      PlainEffect r s ({ s with regs := s.regs.set q v }.respond (Response.okWrite none))
  /-- An unrecognised identity on the 16-bit path. -/
  | bad : PlainEffect r s (fatalEntry .badRegister16 (encodeRequest r) s)

/-- A request without a memory operand does one of these. -/
theorem effect_plain (r : Request) (s : State) (hm : ∀ m, r.operand ≠ .addressingMode m) :
    PlainEffect r s (effect r s) := by
  cases r with
  | read8 o w =>
    cases o with
    | addressingMode m => exact absurd rfl (hm m)
    | immediate8 v => exact .value8 _ _ v rfl
    | relative8 v => exact .value8 _ _ v rfl
    | register8 id => exact .value8 _ _ _ rfl
    | _ => exact .na
  | read16 o w =>
    cases o with
    | addressingMode m => exact absurd rfl (hm m)
    | immediate16 v => exact .value16 _ _ v rfl
    | relative16 v => exact .value16 _ _ v rfl
    | register16 id =>
      cases id with
      | reg q => exact .value16 _ _ _ rfl
      | bad n => exact .bad
    | _ => exact .na
  | write8 o w v =>
    cases o with
    | addressingMode m => exact absurd rfl (hm m)
    | register8 id => exact .half id w v rfl
    | _ => exact .na
  | write16 o w v =>
    cases o with
    | addressingMode m => exact absurd rfl (hm m)
    | register16 id =>
      cases id with
      | reg q => exact .reg q w v rfl
      | bad n => exact .bad
    | _ => exact .na

/-- Everything an accepted request can do: the plain effects, the fatal register-direct mode, or its one access at the translated
effective address. -/
theorem effect_cases (r : Request) (s : State) :
    ((∀ m, r.operand ≠ .addressingMode m) ∧ PlainEffect r s (effect r s)) ∨
    (r.operand = .addressingMode .registerMode ∧ effect r s = fatalEntry .registerModeEa (encodeRequest r) s) ∨
    (∃ m seg off, r.operand = .addressingMode m ∧ m ≠ .registerMode ∧ calcEa m r.override s.regs = some (seg, off) ∧
      effect r s = memEffect r (linearAddr seg off) s) := by
  by_cases h : ∃ m, r.operand = .addressingMode m
  · obtain ⟨m, hm⟩ := h
    by_cases hr : m = .registerMode
    · subst hr
      exact .inr (.inl ⟨hm, effect_registerMode hm⟩)
    · obtain ⟨seg, off, hea⟩ := calcEa_memory hr r.override s.regs
      exact .inr (.inr ⟨m, seg, off, hm, hr, hea, effect_memory hm hea⟩)
  · have hm : ∀ m, r.operand ≠ .addressingMode m := fun m hm => h ⟨m, hm⟩
    exact .inl ⟨hm, effect_plain r s hm⟩

/-! ## The memory primitives: one call, then the response it decides -/

theorem memRead8_cases (a : Addr) (s : State) :
    (∃ v c, (s.bus.readU8 a).1 = .ok v c ∧
      memRead8 a s = (s.called (.readU8 a) (s.bus.readU8 a).2).respond (Response.okRead8 v (some c))) ∨
    (∃ e, (s.bus.readU8 a).1 = .err e ∧
      memRead8 a s = (s.called (.readU8 a) (s.bus.readU8 a).2).respond (Response.busFailed e)) := by
  unfold memRead8
  cases (s.bus.readU8 a).1 with
  | ok v c => exact .inl ⟨v, c, rfl, rfl⟩
  | err e => exact .inr ⟨e, rfl, rfl⟩

theorem memRead16_cases (a : Addr) (s : State) :
    (∃ v c, (s.bus.readU16 a).1 = .ok v c ∧
      memRead16 a s = (s.called (.readU16 a) (s.bus.readU16 a).2).respond (Response.okRead16 v (some c))) ∨
    (∃ e, (s.bus.readU16 a).1 = .err e ∧
      memRead16 a s = (s.called (.readU16 a) (s.bus.readU16 a).2).respond (Response.busFailed e)) := by
  unfold memRead16
  cases (s.bus.readU16 a).1 with
  | ok v c => exact .inl ⟨v, c, rfl, rfl⟩
  | err e => exact .inr ⟨e, rfl, rfl⟩

theorem memWrite8_cases (v : Byte) (a : Addr) (s : State) :
    (∃ u c, (s.bus.writeU8 a v).1 = .ok u c ∧
      memWrite8 v a s = (s.called (.writeU8 a v) (s.bus.writeU8 a v).2).respond (Response.okWrite (some c))) ∨
    (∃ e, (s.bus.writeU8 a v).1 = .err e ∧
      memWrite8 v a s = (s.called (.writeU8 a v) (s.bus.writeU8 a v).2).respond (Response.busFailed e)) := by
  unfold memWrite8
  cases (s.bus.writeU8 a v).1 with
  | ok u c => exact .inl ⟨u, c, rfl, rfl⟩
  | err e => exact .inr ⟨e, rfl, rfl⟩

theorem memWrite16_cases (v : Word) (a : Addr) (s : State) :
    (∃ u c, (s.bus.writeU16 a v).1 = .ok u c ∧
      memWrite16 v a s = (s.called (.writeU16 a v) (s.bus.writeU16 a v).2).respond (Response.okWrite (some c))) ∨
    (∃ e, (s.bus.writeU16 a v).1 = .err e ∧
      memWrite16 v a s = (s.called (.writeU16 a v) (s.bus.writeU16 a v).2).respond (Response.busFailed e)) := by
  unfold memWrite16
  cases (s.bus.writeU16 a v).1 with
  | ok u c => exact .inl ⟨u, c, rfl, rfl⟩
  | err e => exact .inr ⟨e, rfl, rfl⟩

/-! ## The access: what it changes -/

section
variable (r : Request) (a : Addr) (s : State)

@[simp] theorem memEffect_regs : (memEffect r a s).regs = s.regs := by cases r <;> rfl
@[simp] theorem memEffect_halted : (memEffect r a s).halted = s.halted := by cases r <;> rfl
@[simp] theorem memEffect_diag : (memEffect r a s).diag = s.diag := by cases r <;> rfl
@[simp] theorem memEffect_resetRegs : (memEffect r a s).resetRegs = s.resetRegs := by cases r <;> rfl
@[simp] theorem memEffect_inputs : (memEffect r a s).inputs = s.inputs := by cases r <;> rfl

end

/-- No request touches the parameter or the surroundings' further moves. -/
theorem effect_inputs (r : Request) (s : State) : (effect r s).inputs = s.inputs := by
  obtain ⟨_, h⟩ | ⟨_, h⟩ | ⟨m, seg, off, _, _, _, h⟩ := effect_cases r s
  · generalize effect r s = t at h
    cases h <;> rfl
  · rw [h]; rfl
  · rw [h]; exact memEffect_inputs _ _ _

theorem effect_resetRegs (r : Request) (s : State) : (effect r s).resetRegs = s.resetRegs := by
  obtain ⟨_, h⟩ | ⟨_, h⟩ | ⟨m, seg, off, _, _, _, h⟩ := effect_cases r s
  · generalize effect r s = t at h
    cases h <;> rfl
  · rw [h]; rfl
  · rw [h]; exact memEffect_resetRegs _ _ _

/-! ## Steps -/

/-- Everything a step can do. -/
inductive StepEffect (s : State) : State → Prop where
  /-- A ready block without input waits. -/
  | wait (hi : s.inputs = []) (hh : s.halted = false) : StepEffect s s
  /-- A ready block runs a well-formed request. -/
  | ran (w : ReqWord) (rest : List Input) (i : Instr) (hi : s.inputs = .request w :: rest) (hh : s.halted = false)
      (hd : decode w = .ok i) : StepEffect s (effect i.request { s with inputs := rest })
  /-- A malformed word is fatal. -/
  | malformed (w : ReqWord) (rest : List Input) (why : Malformed) (hi : s.inputs = .request w :: rest)
      (hh : s.halted = false) (hd : decode w = .malformed why) :
      StepEffect s (fatalEntry .malformedRequest w { s with inputs := rest })
  /-- Reset. -/
  | reset (rest : List Input) (hi : s.inputs = .reset :: rest) : StepEffect s (applyReset { s with inputs := rest })
  /-- A change behind the bus. -/
  | bus (b : Bus) (rest : List Input) (hi : s.inputs = .bus b :: rest) :
      StepEffect s { s with inputs := rest, bus := b }

/-- A step that answers a next state does one of these. -/
theorem step_cases {s t : State} (h : step s = .next t) : StepEffect s t := by
  unfold step serveNext at h
  split at h
  · rename_i hi
    obtain ⟨hh, rfl⟩ := accept_eq_next h
    exact .wait hi hh
  · rename_i w rest hi
    unfold serveRequest at h
    split at h
    · exact absurd h (by simp)
    · rename_i hh
      have hh' : s.halted = false := by simpa using hh
      split at h
      · rename_i i hd
        obtain ⟨_, rfl⟩ := exec_eq_next h
        exact .ran w rest i hi hh' hd
      · rename_i why hd
        obtain rfl : fatalEntry .malformedRequest w { s with inputs := rest } = t := by simpa using h
        exact .malformed w rest why hi hh' hd
  · rename_i rest hi
    obtain rfl : applyReset { s with inputs := rest } = t := by simpa using h
    exact .reset rest hi
  · rename_i b rest hi
    obtain rfl : ({ s with inputs := rest, bus := b } : State) = t := by simpa using h
    exact .bus b rest hi

/-! ## Runs -/

@[simp] theorem run_zero (s : State) : run 0 s = .next s := rfl

/-- One more step at the front of a run. -/
theorem run_succ (k : Nat) (s : State) : run (k + 1) s =
    match step s with
    | .next t => run k t
    | .fault r => .fault r
    | .refused r => .refused r := by
  have h : Sys2Proof.core.step s = step s := rfl
  have e := Host.Core.run.eq_2 Sys2Proof.core s k
  generalize Sys2Proof.core.step s = x at h e
  refine Eq.trans e ?_
  subst h
  cases step s <;> rfl

/-- A run whose first step answers a next state goes on from there. -/
theorem run_succ_eq_next {k : Nat} {s t : State} (h : run (k + 1) s = .next t) :
    ∃ u, step s = .next u ∧ run k u = .next t := by
  rw [run_succ] at h
  split at h
  · rename_i u hu; exact ⟨u, hu, h⟩
  · exact absurd h (by simp)
  · exact absurd h (by simp)

end Sys2Proof.Machine
end

