-- ==== Sys2Proof/Laws/Memory.lean ====
section
/-! SUPPORT. The canonical byte list: what reads see after a write, and that every memory operation of the reference bus, and
every bus function, keeps the canonical form. -/

namespace Sys2Proof.Machine

theorem Memory.get_cons (a b : Nat) (v : Byte) (m : Memory) (hm : Memory.get m a = Memory.unlisted) :
    Memory.get (Memory.cons a v m) b = if b = a then v else Memory.get m b := by
  unfold Memory.cons
  split
  · by_cases h : b = a <;> simp_all
  · simp [Memory.get]

/-- Below the bound of a canonical memory nothing is listed. -/
theorem Memory.get_below {m : Memory} : ∀ {lo a : Nat}, Memory.wfFrom lo m = true → a < lo →
    Memory.get m a = Memory.unlisted := by
  induction m with
  | nil => intros; rfl
  | cons c rest ih =>
    obtain ⟨b, u⟩ := c
    intro lo a h ha
    simp only [Memory.wfFrom, Bool.and_eq_true, decide_eq_true_eq] at h
    have hne : a ≠ b := by omega
    simp only [Memory.get, hne, if_false]
    exact ih h.2 (by omega)

theorem Memory.wfFrom_mono {m : Memory} {lo hi : Nat} (h : Memory.wfFrom hi m = true) (hle : lo ≤ hi) :
    Memory.wfFrom lo m = true := by
  cases m with
  | nil => rfl
  | cons c rest =>
    obtain ⟨b, u⟩ := c
    simp only [Memory.wfFrom, Bool.and_eq_true, decide_eq_true_eq] at h ⊢
    exact ⟨⟨⟨by omega, h.1.1.2⟩, h.1.2⟩, h.2⟩

theorem Memory.wfFrom_cons {m : Memory} {lo a : Nat} {v : Byte} (h : Memory.wfFrom (a + 1) m = true) (hlo : lo ≤ a)
    (ha : a < Memory.size) : Memory.wfFrom lo (Memory.cons a v m) = true := by
  unfold Memory.cons
  split
  · exact Memory.wfFrom_mono h (by omega)
  · simp_all [Memory.wfFrom]

/-- Reading after a write: the value written at its address, the old byte everywhere else. -/
theorem Memory.get_put {m : Memory} : ∀ {lo a : Nat} {v : Byte} (b : Nat), Memory.wfFrom lo m = true →
    Memory.get (Memory.put m a v) b = if b = a then v else Memory.get m b := by
  induction m with
  | nil =>
    intro lo a v b _
    exact Memory.get_cons a b v [] rfl
  | cons c rest ih =>
    obtain ⟨d, u⟩ := c
    intro lo a v b h
    have hw := h
    simp only [Memory.wfFrom, Bool.and_eq_true, decide_eq_true_eq] at h
    unfold Memory.put
    split
    · rename_i had
      have hbelow : Memory.get ((d, u) :: rest) a = Memory.unlisted :=
        Memory.get_below (lo := d) (by simp [Memory.wfFrom, h.1.1.2, h.1.2, h.2]) had
      exact Memory.get_cons a b v _ hbelow
    · split
      · rename_i _ had
        subst had
        rw [Memory.get_cons a b v rest (Memory.get_below h.2 (by omega))]
        by_cases hb : b = a <;> simp [hb, Memory.get]
      · rename_i _ had
        by_cases hb : b = d
        · subst hb
          have : ¬ b = a := fun e => had e.symm
          simp [Memory.get, this]
        · simp [Memory.get, hb, ih b h.2]

theorem Memory.wfFrom_put {m : Memory} : ∀ {lo a : Nat} {v : Byte}, Memory.wfFrom lo m = true → lo ≤ a →
    a < Memory.size → Memory.wfFrom lo (Memory.put m a v) = true := by
  induction m with
  | nil => intro lo a v h hlo ha; exact Memory.wfFrom_cons rfl hlo ha
  | cons c rest ih =>
    obtain ⟨d, u⟩ := c
    intro lo a v h hlo ha
    simp only [Memory.wfFrom, Bool.and_eq_true, decide_eq_true_eq] at h
    unfold Memory.put
    split
    · refine Memory.wfFrom_cons ?_ hlo ha
      simp only [Memory.wfFrom, Bool.and_eq_true, decide_eq_true_eq]
      exact ⟨⟨⟨by omega, h.1.1.2⟩, h.1.2⟩, h.2⟩
    · split
      · rename_i _ had
        subst had
        exact Memory.wfFrom_cons h.2 hlo ha
      · simp only [Memory.wfFrom, Bool.and_eq_true, decide_eq_true_eq]
        exact ⟨⟨⟨h.1.1.1, h.1.1.2⟩, h.1.2⟩, ih h.2 (by omega) ha⟩

/-- A write keeps the canonical form. -/
theorem Memory.wf_put {m : Memory} {a : Nat} {v : Byte} (h : m.wf = true) (ha : a < Memory.size) :
    (m.put a v).wf = true :=
  Memory.wfFrom_put h (Nat.zero_le a) ha

/-- Every physical address lies in the address space. -/
theorem addr_lt_size (a : Addr) : a.toNat < Memory.size := a.isLt

/-- The byte of the reference bus after a store. -/
theorem RefBus.byteAt_storeByte {b : RefBus} (h : b.mem.wf = true) (a c : Addr) (v : Byte) :
    (b.storeByte a v).byteAt c = if c = a then v else b.byteAt c := by
  unfold RefBus.byteAt RefBus.storeByte
  rw [Memory.get_put c.toNat h]
  simp only [BitVec.toNat_inj]

theorem RefBus.wf_storeByte {b : RefBus} (h : b.mem.wf = true) (a : Addr) (v : Byte) :
    (b.storeByte a v).mem.wf = true :=
  Memory.wf_put h (addr_lt_size a)

/-- The second byte of a word is another byte. -/
theorem nextAddr_ne (a : Addr) : nextAddr a ≠ a := by
  intro h
  have hn := congrArg BitVec.toNat h
  have hl := a.isLt
  simp [nextAddr, BitVec.toNat_add] at hn
  omega

theorem RefBus.wf_writeU8 {b : RefBus} (h : b.mem.wf = true) (a : Addr) (v : Byte) :
    (b.writeU8 a v).2.mem.wf = true := by
  unfold RefBus.writeU8
  split
  · exact RefBus.wf_storeByte h a v
  · exact h

theorem RefBus.wf_writeU16 {b : RefBus} (h : b.mem.wf = true) (a : Addr) (v : Word) :
    (b.writeU16 a v).2.mem.wf = true := by
  unfold RefBus.writeU16
  split
  · exact RefBus.wf_storeByte (RefBus.wf_storeByte h _ _) _ _
  · exact h

/-- Every bus function keeps the canonical form of the memory behind the bus. -/
theorem Bus.wf_readU8 {b : Bus} (h : b.wf = true) (a : Addr) : (b.readU8 a).2.wf = true := by
  cases b <;> exact h

theorem Bus.wf_readU16 {b : Bus} (h : b.wf = true) (a : Addr) : (b.readU16 a).2.wf = true := by
  cases b <;> exact h

theorem Bus.wf_writeU8 {b : Bus} (h : b.wf = true) (a : Addr) (v : Byte) : (b.writeU8 a v).2.wf = true := by
  cases b with
  | ref r => exact RefBus.wf_writeU8 h a v
  | platform p => rfl

theorem Bus.wf_writeU16 {b : Bus} (h : b.wf = true) (a : Addr) (v : Word) : (b.writeU16 a v).2.wf = true := by
  cases b with
  | ref r => exact RefBus.wf_writeU16 h a v
  | platform p => rfl

/-- The memory at reset is canonical. -/
theorem reset_memory_wf : RefBus.allMapped.mem.wf = true := rfl

end Sys2Proof.Machine
end

