-- ==== Sys2Proof/Laws/OpcodeTable.lean ====
section
/-! SUPPORT. The rows of `spec/opcode_table.json` (30_encoding.md R83) as the table gives them: the mask of the fixed bits and
their values. The model does not use them; its encoder is written from 30_encoding.md R65 to R74. -/

namespace Sys2Proof

/-- Which bits the row fixes, and to what. -/
def opcodeRow : Instr → ReqWord × ReqWord
  | .read8Immediate8 _ _ => (0xC7FFFFFFFF00FFFF, 0x0000000000000000)
  | .read8Immediate16 _ _ => (0xC7FFFFFF0000FFFF, 0x0080000000000000)
  | .read8Relative8 _ _ => (0xC7FFFFFFFF00FFFF, 0x0100000000000000)
  | .read8Relative16 _ _ => (0xC7FFFFFF0000FFFF, 0x0180000000000000)
  | .read8Offset8 _ _ => (0xC7FFFFFF0000FFFF, 0x0200000000000000)
  | .read8Offset16 _ _ => (0xC7FFFFFF0000FFFF, 0x0280000000000000)
  | .read8Register8 _ _ => (0xC7FFFFFFFFF8FFFF, 0x0300000000000000)
  | .read8Register16 _ _ => (0xC7FFFFFFFFF0FFFF, 0x0380000000000000)
  | .read8BxSi _ => (0xC7FFFFFFFFFFFFFF, 0x0400000000000000)
  | .read8BxDi _ => (0xC7FFFFFFFFFFFFFF, 0x0400000100000000)
  | .read8BpSi _ => (0xC7FFFFFFFFFFFFFF, 0x0400000200000000)
  | .read8BpDi _ => (0xC7FFFFFFFFFFFFFF, 0x0400000300000000)
  | .read8Si _ => (0xC7FFFFFFFFFFFFFF, 0x0400000400000000)
  | .read8Di _ => (0xC7FFFFFFFFFFFFFF, 0x0400000500000000)
  | .read8Bp _ => (0xC7FFFFFFFFFFFFFF, 0x0400000600000000)
  | .read8Bx _ => (0xC7FFFFFFFFFFFFFF, 0x0400000700000000)
  | .read8BxSiDisp8 _ _ => (0xC7FFFFFFFF00FFFF, 0x0400000800000000)
  | .read8BxDiDisp8 _ _ => (0xC7FFFFFFFF00FFFF, 0x0400000900000000)
  | .read8BpSiDisp8 _ _ => (0xC7FFFFFFFF00FFFF, 0x0400000A00000000)
  | .read8BpDiDisp8 _ _ => (0xC7FFFFFFFF00FFFF, 0x0400000B00000000)
  | .read8SiDisp8 _ _ => (0xC7FFFFFFFF00FFFF, 0x0400000C00000000)
  | .read8DiDisp8 _ _ => (0xC7FFFFFFFF00FFFF, 0x0400000D00000000)
  | .read8BpDisp8 _ _ => (0xC7FFFFFFFF00FFFF, 0x0400000E00000000)
  | .read8BxDisp8 _ _ => (0xC7FFFFFFFF00FFFF, 0x0400000F00000000)
  | .read8BxSiDisp16 _ _ => (0xC7FFFFFF0000FFFF, 0x0400001000000000)
  | .read8BxDiDisp16 _ _ => (0xC7FFFFFF0000FFFF, 0x0400001100000000)
  | .read8BpSiDisp16 _ _ => (0xC7FFFFFF0000FFFF, 0x0400001200000000)
  | .read8BpDiDisp16 _ _ => (0xC7FFFFFF0000FFFF, 0x0400001300000000)
  | .read8SiDisp16 _ _ => (0xC7FFFFFF0000FFFF, 0x0400001400000000)
  | .read8DiDisp16 _ _ => (0xC7FFFFFF0000FFFF, 0x0400001500000000)
  | .read8BpDisp16 _ _ => (0xC7FFFFFF0000FFFF, 0x0400001600000000)
  | .read8BxDisp16 _ _ => (0xC7FFFFFF0000FFFF, 0x0400001700000000)
  | .read8Disp16 _ _ => (0xC7FFFFFF0000FFFF, 0x0400001800000000)
  | .read8RegisterMode _ => (0xC7FFFFFFFFFFFFFF, 0x0400001900000000)
  | .read8NearAddress _ _ => (0xC7FFFFFF0000FFFF, 0x0480000000000000)
  | .read8FarAddress _ _ _ => (0xC7FF00000000FFFF, 0x0500000000000000)
  | .read8NoOperand _ => (0xC7FFFFFFFFFFFFFF, 0x0580000000000000)
  | .read8InvalidOperand _ => (0xC7FFFFFFFFFFFFFF, 0x0600000000000000)
  | .read16Immediate8 _ _ => (0xC7FFFFFFFF00FFFF, 0x4000000000000000)
  | .read16Immediate16 _ _ => (0xC7FFFFFF0000FFFF, 0x4080000000000000)
  | .read16Relative8 _ _ => (0xC7FFFFFFFF00FFFF, 0x4100000000000000)
  | .read16Relative16 _ _ => (0xC7FFFFFF0000FFFF, 0x4180000000000000)
  | .read16Offset8 _ _ => (0xC7FFFFFF0000FFFF, 0x4200000000000000)
  | .read16Offset16 _ _ => (0xC7FFFFFF0000FFFF, 0x4280000000000000)
  | .read16Register8 _ _ => (0xC7FFFFFFFFF8FFFF, 0x4300000000000000)
  | .read16Register16 _ _ => (0xC7FFFFFFFFF0FFFF, 0x4380000000000000)
  | .read16BxSi _ => (0xC7FFFFFFFFFFFFFF, 0x4400000000000000)
  | .read16BxDi _ => (0xC7FFFFFFFFFFFFFF, 0x4400000100000000)
  | .read16BpSi _ => (0xC7FFFFFFFFFFFFFF, 0x4400000200000000)
  | .read16BpDi _ => (0xC7FFFFFFFFFFFFFF, 0x4400000300000000)
  | .read16Si _ => (0xC7FFFFFFFFFFFFFF, 0x4400000400000000)
  | .read16Di _ => (0xC7FFFFFFFFFFFFFF, 0x4400000500000000)
  | .read16Bp _ => (0xC7FFFFFFFFFFFFFF, 0x4400000600000000)
  | .read16Bx _ => (0xC7FFFFFFFFFFFFFF, 0x4400000700000000)
  | .read16BxSiDisp8 _ _ => (0xC7FFFFFFFF00FFFF, 0x4400000800000000)
  | .read16BxDiDisp8 _ _ => (0xC7FFFFFFFF00FFFF, 0x4400000900000000)
  | .read16BpSiDisp8 _ _ => (0xC7FFFFFFFF00FFFF, 0x4400000A00000000)
  | .read16BpDiDisp8 _ _ => (0xC7FFFFFFFF00FFFF, 0x4400000B00000000)
  | .read16SiDisp8 _ _ => (0xC7FFFFFFFF00FFFF, 0x4400000C00000000)
  | .read16DiDisp8 _ _ => (0xC7FFFFFFFF00FFFF, 0x4400000D00000000)
  | .read16BpDisp8 _ _ => (0xC7FFFFFFFF00FFFF, 0x4400000E00000000)
  | .read16BxDisp8 _ _ => (0xC7FFFFFFFF00FFFF, 0x4400000F00000000)
  | .read16BxSiDisp16 _ _ => (0xC7FFFFFF0000FFFF, 0x4400001000000000)
  | .read16BxDiDisp16 _ _ => (0xC7FFFFFF0000FFFF, 0x4400001100000000)
  | .read16BpSiDisp16 _ _ => (0xC7FFFFFF0000FFFF, 0x4400001200000000)
  | .read16BpDiDisp16 _ _ => (0xC7FFFFFF0000FFFF, 0x4400001300000000)
  | .read16SiDisp16 _ _ => (0xC7FFFFFF0000FFFF, 0x4400001400000000)
  | .read16DiDisp16 _ _ => (0xC7FFFFFF0000FFFF, 0x4400001500000000)
  | .read16BpDisp16 _ _ => (0xC7FFFFFF0000FFFF, 0x4400001600000000)
  | .read16BxDisp16 _ _ => (0xC7FFFFFF0000FFFF, 0x4400001700000000)
  | .read16Disp16 _ _ => (0xC7FFFFFF0000FFFF, 0x4400001800000000)
  | .read16RegisterMode _ => (0xC7FFFFFFFFFFFFFF, 0x4400001900000000)
  | .read16NearAddress _ _ => (0xC7FFFFFF0000FFFF, 0x4480000000000000)
  | .read16FarAddress _ _ _ => (0xC7FF00000000FFFF, 0x4500000000000000)
  | .read16NoOperand _ => (0xC7FFFFFFFFFFFFFF, 0x4580000000000000)
  | .read16InvalidOperand _ => (0xC7FFFFFFFFFFFFFF, 0x4600000000000000)
  | .write8Immediate8 _ _ _ => (0xC7FFFFFFFF00FF00, 0x8000000000000000)
  | .write8Immediate16 _ _ _ => (0xC7FFFFFF0000FF00, 0x8080000000000000)
  | .write8Relative8 _ _ _ => (0xC7FFFFFFFF00FF00, 0x8100000000000000)
  | .write8Relative16 _ _ _ => (0xC7FFFFFF0000FF00, 0x8180000000000000)
  | .write8Offset8 _ _ _ => (0xC7FFFFFF0000FF00, 0x8200000000000000)
  | .write8Offset16 _ _ _ => (0xC7FFFFFF0000FF00, 0x8280000000000000)
  | .write8Register8 _ _ _ => (0xC7FFFFFFFFF8FF00, 0x8300000000000000)
  | .write8Register16 _ _ _ => (0xC7FFFFFFFFF0FF00, 0x8380000000000000)
  | .write8BxSi _ _ => (0xC7FFFFFFFFFFFF00, 0x8400000000000000)
  | .write8BxDi _ _ => (0xC7FFFFFFFFFFFF00, 0x8400000100000000)
  | .write8BpSi _ _ => (0xC7FFFFFFFFFFFF00, 0x8400000200000000)
  | .write8BpDi _ _ => (0xC7FFFFFFFFFFFF00, 0x8400000300000000)
  | .write8Si _ _ => (0xC7FFFFFFFFFFFF00, 0x8400000400000000)
  | .write8Di _ _ => (0xC7FFFFFFFFFFFF00, 0x8400000500000000)
  | .write8Bp _ _ => (0xC7FFFFFFFFFFFF00, 0x8400000600000000)
  | .write8Bx _ _ => (0xC7FFFFFFFFFFFF00, 0x8400000700000000)
  | .write8BxSiDisp8 _ _ _ => (0xC7FFFFFFFF00FF00, 0x8400000800000000)
  | .write8BxDiDisp8 _ _ _ => (0xC7FFFFFFFF00FF00, 0x8400000900000000)
  | .write8BpSiDisp8 _ _ _ => (0xC7FFFFFFFF00FF00, 0x8400000A00000000)
  | .write8BpDiDisp8 _ _ _ => (0xC7FFFFFFFF00FF00, 0x8400000B00000000)
  | .write8SiDisp8 _ _ _ => (0xC7FFFFFFFF00FF00, 0x8400000C00000000)
  | .write8DiDisp8 _ _ _ => (0xC7FFFFFFFF00FF00, 0x8400000D00000000)
  | .write8BpDisp8 _ _ _ => (0xC7FFFFFFFF00FF00, 0x8400000E00000000)
  | .write8BxDisp8 _ _ _ => (0xC7FFFFFFFF00FF00, 0x8400000F00000000)
  | .write8BxSiDisp16 _ _ _ => (0xC7FFFFFF0000FF00, 0x8400001000000000)
  | .write8BxDiDisp16 _ _ _ => (0xC7FFFFFF0000FF00, 0x8400001100000000)
  | .write8BpSiDisp16 _ _ _ => (0xC7FFFFFF0000FF00, 0x8400001200000000)
  | .write8BpDiDisp16 _ _ _ => (0xC7FFFFFF0000FF00, 0x8400001300000000)
  | .write8SiDisp16 _ _ _ => (0xC7FFFFFF0000FF00, 0x8400001400000000)
  | .write8DiDisp16 _ _ _ => (0xC7FFFFFF0000FF00, 0x8400001500000000)
  | .write8BpDisp16 _ _ _ => (0xC7FFFFFF0000FF00, 0x8400001600000000)
  | .write8BxDisp16 _ _ _ => (0xC7FFFFFF0000FF00, 0x8400001700000000)
  | .write8Disp16 _ _ _ => (0xC7FFFFFF0000FF00, 0x8400001800000000)
  | .write8RegisterMode _ _ => (0xC7FFFFFFFFFFFF00, 0x8400001900000000)
  | .write8NearAddress _ _ _ => (0xC7FFFFFF0000FF00, 0x8480000000000000)
  | .write8FarAddress _ _ _ _ => (0xC7FF00000000FF00, 0x8500000000000000)
  | .write8NoOperand _ _ => (0xC7FFFFFFFFFFFF00, 0x8580000000000000)
  | .write8InvalidOperand _ _ => (0xC7FFFFFFFFFFFF00, 0x8600000000000000)
  | .write16Immediate8 _ _ _ => (0xC7FFFFFFFF000000, 0xC000000000000000)
  | .write16Immediate16 _ _ _ => (0xC7FFFFFF00000000, 0xC080000000000000)
  | .write16Relative8 _ _ _ => (0xC7FFFFFFFF000000, 0xC100000000000000)
  | .write16Relative16 _ _ _ => (0xC7FFFFFF00000000, 0xC180000000000000)
  | .write16Offset8 _ _ _ => (0xC7FFFFFF00000000, 0xC200000000000000)
  | .write16Offset16 _ _ _ => (0xC7FFFFFF00000000, 0xC280000000000000)
  | .write16Register8 _ _ _ => (0xC7FFFFFFFFF80000, 0xC300000000000000)
  | .write16Register16 _ _ _ => (0xC7FFFFFFFFF00000, 0xC380000000000000)
  | .write16BxSi _ _ => (0xC7FFFFFFFFFF0000, 0xC400000000000000)
  | .write16BxDi _ _ => (0xC7FFFFFFFFFF0000, 0xC400000100000000)
  | .write16BpSi _ _ => (0xC7FFFFFFFFFF0000, 0xC400000200000000)
  | .write16BpDi _ _ => (0xC7FFFFFFFFFF0000, 0xC400000300000000)
  | .write16Si _ _ => (0xC7FFFFFFFFFF0000, 0xC400000400000000)
  | .write16Di _ _ => (0xC7FFFFFFFFFF0000, 0xC400000500000000)
  | .write16Bp _ _ => (0xC7FFFFFFFFFF0000, 0xC400000600000000)
  | .write16Bx _ _ => (0xC7FFFFFFFFFF0000, 0xC400000700000000)
  | .write16BxSiDisp8 _ _ _ => (0xC7FFFFFFFF000000, 0xC400000800000000)
  | .write16BxDiDisp8 _ _ _ => (0xC7FFFFFFFF000000, 0xC400000900000000)
  | .write16BpSiDisp8 _ _ _ => (0xC7FFFFFFFF000000, 0xC400000A00000000)
  | .write16BpDiDisp8 _ _ _ => (0xC7FFFFFFFF000000, 0xC400000B00000000)
  | .write16SiDisp8 _ _ _ => (0xC7FFFFFFFF000000, 0xC400000C00000000)
  | .write16DiDisp8 _ _ _ => (0xC7FFFFFFFF000000, 0xC400000D00000000)
  | .write16BpDisp8 _ _ _ => (0xC7FFFFFFFF000000, 0xC400000E00000000)
  | .write16BxDisp8 _ _ _ => (0xC7FFFFFFFF000000, 0xC400000F00000000)
  | .write16BxSiDisp16 _ _ _ => (0xC7FFFFFF00000000, 0xC400001000000000)
  | .write16BxDiDisp16 _ _ _ => (0xC7FFFFFF00000000, 0xC400001100000000)
  | .write16BpSiDisp16 _ _ _ => (0xC7FFFFFF00000000, 0xC400001200000000)
  | .write16BpDiDisp16 _ _ _ => (0xC7FFFFFF00000000, 0xC400001300000000)
  | .write16SiDisp16 _ _ _ => (0xC7FFFFFF00000000, 0xC400001400000000)
  | .write16DiDisp16 _ _ _ => (0xC7FFFFFF00000000, 0xC400001500000000)
  | .write16BpDisp16 _ _ _ => (0xC7FFFFFF00000000, 0xC400001600000000)
  | .write16BxDisp16 _ _ _ => (0xC7FFFFFF00000000, 0xC400001700000000)
  | .write16Disp16 _ _ _ => (0xC7FFFFFF00000000, 0xC400001800000000)
  | .write16RegisterMode _ _ => (0xC7FFFFFFFFFF0000, 0xC400001900000000)
  | .write16NearAddress _ _ _ => (0xC7FFFFFF00000000, 0xC480000000000000)
  | .write16FarAddress _ _ _ _ => (0xC7FF000000000000, 0xC500000000000000)
  | .write16NoOperand _ _ => (0xC7FFFFFFFFFF0000, 0xC580000000000000)
  | .write16InvalidOperand _ _ => (0xC7FFFFFFFFFF0000, 0xC600000000000000)

end Sys2Proof
end

