-- ==== Sys2Proof/Laws/Registers.lean ====
section
/-! SUPPORT. The register file as twelve cells, and the halves of a cell (10_state.md R21 to R26). -/

namespace Sys2Proof.Machine

/-- Reading a register after a write gives the value written there, and elsewhere the old one. -/
theorem RegFile.get_set (x : RegFile) (r q : Reg16) (v : Word) :
    (x.set r v).get q = if q = r then v else x.get q := by
  cases r <;> cases q <;> rfl

@[simp] theorem RegFile.get_set_self (x : RegFile) (r : Reg16) (v : Word) : (x.set r v).get r = v := by
  cases r <;> rfl

theorem RegFile.get_set_other (x : RegFile) {r q : Reg16} (v : Word) (h : q ≠ r) : (x.set r v).get q = x.get q := by
  simp [RegFile.get_set, h]

/-- Two register files with the same twelve values are the same. -/
theorem RegFile.ext_get {x y : RegFile} (h : ∀ r, x.get r = y.get r) : x = y := by
  cases x; cases y
  simp only [RegFile.mk.injEq]
  exact ⟨h .ax, h .bx, h .cx, h .dx, h .sp, h .bp, h .si, h .di, h .cs, h .ds, h .es, h .ss⟩

@[simp] theorem lowByte_withLowByte (w : Word) (v : Byte) : lowByte (withLowByte w v) = v := by
  ext i hi
  simp only [lowByte, withLowByte, BitVec.getElem_extractLsb', BitVec.getLsbD_or, BitVec.getLsbD_and,
    BitVec.getLsbD_setWidth, Nat.zero_add]
  have : (0xFF00#16).getLsbD i = false := by interval_cases i <;> rfl
  rw [this]
  simp [BitVec.getLsbD_eq_getElem hi, show i < 16 by omega]

@[simp] theorem highByte_withLowByte (w : Word) (v : Byte) : highByte (withLowByte w v) = highByte w := by
  ext i hi
  simp only [highByte, withLowByte, BitVec.getElem_extractLsb', BitVec.getLsbD_or, BitVec.getLsbD_and,
    BitVec.getLsbD_setWidth]
  have : (0xFF00#16).getLsbD (8 + i) = true := by interval_cases i <;> rfl
  rw [this]
  simp

@[simp] theorem highByte_withHighByte (w : Word) (v : Byte) : highByte (withHighByte w v) = v := by
  ext i hi
  simp only [highByte, withHighByte, BitVec.getElem_extractLsb', BitVec.getLsbD_or, BitVec.getLsbD_and,
    BitVec.getLsbD_shiftLeft, BitVec.getLsbD_setWidth]
  have : (0x00FF#16).getLsbD (8 + i) = false := by interval_cases i <;> rfl
  rw [this]
  simp [BitVec.getLsbD_eq_getElem hi, show 8 + i < 16 by omega, show i < 16 by omega]

@[simp] theorem lowByte_withHighByte (w : Word) (v : Byte) : lowByte (withHighByte w v) = lowByte w := by
  ext i hi
  simp only [lowByte, withHighByte, BitVec.getElem_extractLsb', BitVec.getLsbD_or, BitVec.getLsbD_and,
    BitVec.getLsbD_shiftLeft, BitVec.getLsbD_setWidth, Nat.zero_add]
  have : (0x00FF#16).getLsbD i = true := by interval_cases i <;> rfl
  rw [this]
  simp [hi]

/-- A half write touches only the register the half belongs to. -/
theorem RegFile.get_setHalf_other (x : RegFile) (h : Reg8) (v : Byte) {q : Reg16} (hq : q ≠ pairOf h) :
    (x.setHalf h v).get q = x.get q :=
  RegFile.get_set_other x _ hq

end Sys2Proof.Machine
end

