-- ==== Sys2Proof/Laws/Operands.lean ====
section
/-! SUPPORT. Which registers the Segment Resolver and the Effective Address Calculator look at (40_segment_resolver.md R90,
41_ea_calculator.md R113). -/

namespace Sys2Proof.Machine

/-- The resolver looks at the four segment registers only. -/
theorem resolve_congr {x y : RegFile} (kind : SegKind) (ovr : SegOverride)
    (h : ∀ r ∈ [Reg16.cs, .ds, .es, .ss], x.get r = y.get r) : resolve kind ovr x = resolve kind ovr y := by
  have hc := h .cs (by decide)
  have hd := h .ds (by decide)
  have he := h .es (by decide)
  have hs := h .ss (by decide)
  cases ovr <;> cases kind <;> assumption

/-- The sum looks at the registers it names only. -/
theorem offsetSum_congr {rs : List Reg16} {x y : RegFile} (disp : Word) (h : ∀ r ∈ rs, x.get r = y.get r) :
    offsetSum rs disp x = offsetSum rs disp y := by
  induction rs with
  | nil => rfl
  | cons r rest ih =>
    have hr : x.get r = y.get r := h r (by simp)
    have hrest : offsetSum rest disp x = offsetSum rest disp y := ih fun q hq => h q (by simp [hq])
    simp only [offsetSum, List.foldr_cons] at hrest ⊢
    rw [hr, hrest]

/-- A mode is based on `BX`, `BP`, `SI` and `DI` only. -/
theorem modeRegs_subset (m : AddrMode) {r : Reg16} (h : r ∈ modeRegs m) : r ∈ [Reg16.bx, .bp, .si, .di] := by
  have base : ∀ (b : EaBase) {q : Reg16}, q ∈ baseRegs b → q ∈ [Reg16.bx, .bp, .si, .di] := by
    intro b q hq
    revert hq
    cases b <;> cases q <;> decide
  cases m with
  | plain b => exact base b h
  | disp8 b d => exact base b h
  | disp16 b d => exact base b h
  | direct d => exact absurd h (by simp [modeRegs])
  | registerMode => exact absurd h (by simp [modeRegs])

/-- The effective address looks at the segment registers and the registers the mode names. -/
theorem calcEa_congr {x y : RegFile} (m : AddrMode) (ovr : SegOverride)
    (hs : ∀ r ∈ [Reg16.cs, .ds, .es, .ss], x.get r = y.get r) (hr : ∀ r ∈ modeRegs m, x.get r = y.get r) :
    calcEa m ovr x = calcEa m ovr y := by
  unfold calcEa
  split
  · rfl
  · rw [resolve_congr _ ovr hs, offsetSum_congr _ hr]

end Sys2Proof.Machine
end

