-- ==== Sys2Proof/Laws/PerInstr.lean ====
section
/-! SUPPORT. Instruction by instruction: the encoder's word has the fixed bits of its opcode-table row, and a legal override
(30_encoding.md R83). -/

namespace Sys2Proof.Laws

/-! ## The parts of a word under a row's mask -/

theorem byte_masked (v : Byte) : (0#24 ++ v : BitVec 32) &&& 0xFFFFFF00#32 = 0 := by
  rw [show (0xFFFFFF00#32 : BitVec 32) = 0xFFFFFF#24 ++ 0#8 from rfl, BitVec.and_append]
  simp

theorem word_masked (v : Word) : (0#16 ++ v : BitVec 32) &&& 0xFFFF0000#32 = 0 := by
  rw [show (0xFFFF0000#32 : BitVec 32) = 0xFFFF#16 ++ 0#16 from rfl, BitVec.and_append]
  simp

theorem code3_masked (c : BitVec 3) : (0#29 ++ c : BitVec 32) &&& 0xFFFFFFF8#32 = 0 := by
  rw [show (0xFFFFFFF8#32 : BitVec 32) = 0x1FFFFFFF#29 ++ 0#3 from rfl, BitVec.and_append]
  simp

theorem code4_masked (c : BitVec 4) : (0#28 ++ c : BitVec 32) &&& 0xFFFFFFF0#32 = 0 := by
  rw [show (0xFFFFFFF0#32 : BitVec 32) = 0xFFFFFFF#28 ++ 0#4 from rfl, BitVec.and_append]
  simp

theorem mode_masked (c : BitVec 5) {pv : BitVec 32} (h : 0#11 ++ c ++ 0#16 = pv) :
    (0#11 ++ c ++ 0#16 : BitVec 32) &&& 0xFFFFFFFF#32 = pv := by
  rw [show (0xFFFFFFFF#32 : BitVec 32) = BitVec.allOnes 32 from rfl, BitVec.and_allOnes]
  exact h

theorem mode_masked_disp16 (c : BitVec 5) {d : Word} {pv : BitVec 32} (h : 0#11 ++ c ++ 0#16 = pv) :
    (0#11 ++ c ++ d : BitVec 32) &&& 0xFFFF0000#32 = pv := by
  rw [← h, show (0xFFFF0000#32 : BitVec 32) = 0x7FF#11 ++ 0x1F#5 ++ 0#16 from rfl, BitVec.and_append, BitVec.and_append,
    show (0x1F#5 : BitVec 5) = BitVec.allOnes 5 from rfl, BitVec.and_allOnes]
  simp

theorem mode_masked_disp8 (c : BitVec 5) {d : Byte} {pv : BitVec 32} (h : 0#11 ++ c ++ 0#16 = pv) :
    (0#11 ++ c ++ (0#8 ++ d) : BitVec 32) &&& 0xFFFFFF00#32 = pv := by
  rw [← h, show (0xFFFFFF00#32 : BitVec 32) = 0x7FF#11 ++ 0x1F#5 ++ (0xFF#8 ++ 0#8) from rfl, BitVec.and_append,
    BitVec.and_append, BitVec.and_append, show (0x1F#5 : BitVec 5) = BitVec.allOnes 5 from rfl, BitVec.and_allOnes]
  simp

theorem value8_masked (v : Byte) : (0#8 ++ v : Word) &&& 0xFF00#16 = 0 := by
  rw [show (0xFF00#16 : Word) = 0xFF#8 ++ 0#8 from rfl, BitVec.and_append]
  simp

/-- A packed word under a mask that keeps all but the override, part of the payload and part of the write data. -/
theorem pack_masked (op : BitVec 2) (ovr : BitVec 3) (kind : BitVec 4) (mbz : BitVec 7) (p pm : BitVec 32) (wd wm : Word) :
    packFields op ovr kind mbz p wd &&& packFields 3 0 15 127 pm wm = packFields op 0 kind mbz (p &&& pm) (wd &&& wm) := by
  unfold packFields
  rw [BitVec.and_append, BitVec.and_append, BitVec.and_append, BitVec.and_append, BitVec.and_append,
    show (3 : BitVec 2) = BitVec.allOnes 2 from rfl, show (15 : BitVec 4) = BitVec.allOnes 4 from rfl,
    show (127 : BitVec 7) = BitVec.allOnes 7 from rfl, BitVec.and_allOnes, BitVec.and_allOnes, BitVec.and_allOnes,
    show ovr &&& 0 = 0 from BitVec.and_zero]

/-- The override of an encoded instruction is a legal code. -/
theorem override_legal (i : Instr) : (ovrField (encode i)).toNat ≤ 4 := by
  have h : ∀ v : SegOverride, v.code.toNat ≤ 4 := by intro v; cases v <;> decide
  simpa [encode, encodeRequest] using h i.request.override

namespace TableRow

/-- The instruction's word has the fixed bits of its row, and a legal override. -/
def Statement (i : Instr) : Prop := encode i &&& (opcodeRow i).1 = (opcodeRow i).2 ∧ (ovrField (encode i)).toNat ≤ 4

/-- From the payload and the write data under their parts of the row's mask. -/
theorem intro {i : Instr} {m b : ReqWord} (op : BitVec 2) (kind : BitVec 4) (pm pv : BitVec 32) (wm : Word)
    (hr : opcodeRow i = (m, b)) (hm : m = packFields 3 0 15 127 pm wm) (hb : b = packFields op 0 kind 0 pv 0)
    (hop : i.request.opCode = op) (hk : i.request.operand.kindCode = kind)
    (hp : i.request.operand.payload &&& pm = pv) (hw : i.request.wdata &&& wm = 0) : Statement i := by
  refine ⟨?_, override_legal i⟩
  rw [hr, hm, hb]
  unfold encode encodeRequest
  rw [pack_masked, hop, hk, hp, hw]

theorem read8Immediate8 (v : Byte) (ovr : SegOverride) : Statement (.read8Immediate8 v ovr) :=
  intro 0 0 0xFFFFFF00 0x00000000 0xFFFF rfl (by decide) (by decide) rfl rfl (byte_masked _) (BitVec.zero_and)

theorem read8Immediate16 (v : Word) (ovr : SegOverride) : Statement (.read8Immediate16 v ovr) :=
  intro 0 1 0xFFFF0000 0x00000000 0xFFFF rfl (by decide) (by decide) rfl rfl (word_masked _) (BitVec.zero_and)

theorem read8Relative8 (r : Byte) (ovr : SegOverride) : Statement (.read8Relative8 r ovr) :=
  intro 0 2 0xFFFFFF00 0x00000000 0xFFFF rfl (by decide) (by decide) rfl rfl (byte_masked _) (BitVec.zero_and)

theorem read8Relative16 (r : Word) (ovr : SegOverride) : Statement (.read8Relative16 r ovr) :=
  intro 0 3 0xFFFF0000 0x00000000 0xFFFF rfl (by decide) (by decide) rfl rfl (word_masked _) (BitVec.zero_and)

theorem read8Offset8 (o : Word) (ovr : SegOverride) : Statement (.read8Offset8 o ovr) :=
  intro 0 4 0xFFFF0000 0x00000000 0xFFFF rfl (by decide) (by decide) rfl rfl (word_masked _) (BitVec.zero_and)

theorem read8Offset16 (o : Word) (ovr : SegOverride) : Statement (.read8Offset16 o ovr) :=
  intro 0 5 0xFFFF0000 0x00000000 0xFFFF rfl (by decide) (by decide) rfl rfl (word_masked _) (BitVec.zero_and)

theorem read8Register8 (id : Reg8) (ovr : SegOverride) : Statement (.read8Register8 id ovr) :=
  intro 0 6 0xFFFFFFF8 0x00000000 0xFFFF rfl (by decide) (by decide) rfl rfl (code3_masked _) (BitVec.zero_and)

theorem read8Register16 (id : Reg16Id) (ovr : SegOverride) : Statement (.read8Register16 id ovr) :=
  intro 0 7 0xFFFFFFF0 0x00000000 0xFFFF rfl (by decide) (by decide) rfl rfl (code4_masked _) (BitVec.zero_and)

theorem read8BxSi (ovr : SegOverride) : Statement (.read8BxSi ovr) :=
  intro 0 8 0xFFFFFFFF 0x00000000 0xFFFF rfl (by decide) (by decide) rfl rfl (mode_masked 0 (by decide)) (BitVec.zero_and)

theorem read8BxDi (ovr : SegOverride) : Statement (.read8BxDi ovr) :=
  intro 0 8 0xFFFFFFFF 0x00010000 0xFFFF rfl (by decide) (by decide) rfl rfl (mode_masked 1 (by decide)) (BitVec.zero_and)

theorem read8BpSi (ovr : SegOverride) : Statement (.read8BpSi ovr) :=
  intro 0 8 0xFFFFFFFF 0x00020000 0xFFFF rfl (by decide) (by decide) rfl rfl (mode_masked 2 (by decide)) (BitVec.zero_and)

theorem read8BpDi (ovr : SegOverride) : Statement (.read8BpDi ovr) :=
  intro 0 8 0xFFFFFFFF 0x00030000 0xFFFF rfl (by decide) (by decide) rfl rfl (mode_masked 3 (by decide)) (BitVec.zero_and)

theorem read8Si (ovr : SegOverride) : Statement (.read8Si ovr) :=
  intro 0 8 0xFFFFFFFF 0x00040000 0xFFFF rfl (by decide) (by decide) rfl rfl (mode_masked 4 (by decide)) (BitVec.zero_and)

theorem read8Di (ovr : SegOverride) : Statement (.read8Di ovr) :=
  intro 0 8 0xFFFFFFFF 0x00050000 0xFFFF rfl (by decide) (by decide) rfl rfl (mode_masked 5 (by decide)) (BitVec.zero_and)

theorem read8Bp (ovr : SegOverride) : Statement (.read8Bp ovr) :=
  intro 0 8 0xFFFFFFFF 0x00060000 0xFFFF rfl (by decide) (by decide) rfl rfl (mode_masked 6 (by decide)) (BitVec.zero_and)

theorem read8Bx (ovr : SegOverride) : Statement (.read8Bx ovr) :=
  intro 0 8 0xFFFFFFFF 0x00070000 0xFFFF rfl (by decide) (by decide) rfl rfl (mode_masked 7 (by decide)) (BitVec.zero_and)

theorem read8BxSiDisp8 (d : Byte) (ovr : SegOverride) : Statement (.read8BxSiDisp8 d ovr) :=
  intro 0 8 0xFFFFFF00 0x00080000 0xFFFF rfl (by decide) (by decide) rfl rfl (mode_masked_disp8 8 (by decide)) (BitVec.zero_and)

theorem read8BxDiDisp8 (d : Byte) (ovr : SegOverride) : Statement (.read8BxDiDisp8 d ovr) :=
  intro 0 8 0xFFFFFF00 0x00090000 0xFFFF rfl (by decide) (by decide) rfl rfl (mode_masked_disp8 9 (by decide)) (BitVec.zero_and)

theorem read8BpSiDisp8 (d : Byte) (ovr : SegOverride) : Statement (.read8BpSiDisp8 d ovr) :=
  intro 0 8 0xFFFFFF00 0x000A0000 0xFFFF rfl (by decide) (by decide) rfl rfl (mode_masked_disp8 10 (by decide)) (BitVec.zero_and)

theorem read8BpDiDisp8 (d : Byte) (ovr : SegOverride) : Statement (.read8BpDiDisp8 d ovr) :=
  intro 0 8 0xFFFFFF00 0x000B0000 0xFFFF rfl (by decide) (by decide) rfl rfl (mode_masked_disp8 11 (by decide)) (BitVec.zero_and)

theorem read8SiDisp8 (d : Byte) (ovr : SegOverride) : Statement (.read8SiDisp8 d ovr) :=
  intro 0 8 0xFFFFFF00 0x000C0000 0xFFFF rfl (by decide) (by decide) rfl rfl (mode_masked_disp8 12 (by decide)) (BitVec.zero_and)

theorem read8DiDisp8 (d : Byte) (ovr : SegOverride) : Statement (.read8DiDisp8 d ovr) :=
  intro 0 8 0xFFFFFF00 0x000D0000 0xFFFF rfl (by decide) (by decide) rfl rfl (mode_masked_disp8 13 (by decide)) (BitVec.zero_and)

theorem read8BpDisp8 (d : Byte) (ovr : SegOverride) : Statement (.read8BpDisp8 d ovr) :=
  intro 0 8 0xFFFFFF00 0x000E0000 0xFFFF rfl (by decide) (by decide) rfl rfl (mode_masked_disp8 14 (by decide)) (BitVec.zero_and)

theorem read8BxDisp8 (d : Byte) (ovr : SegOverride) : Statement (.read8BxDisp8 d ovr) :=
  intro 0 8 0xFFFFFF00 0x000F0000 0xFFFF rfl (by decide) (by decide) rfl rfl (mode_masked_disp8 15 (by decide)) (BitVec.zero_and)

theorem read8BxSiDisp16 (d : Word) (ovr : SegOverride) : Statement (.read8BxSiDisp16 d ovr) :=
  intro 0 8 0xFFFF0000 0x00100000 0xFFFF rfl (by decide) (by decide) rfl rfl (mode_masked_disp16 16 (by decide)) (BitVec.zero_and)

theorem read8BxDiDisp16 (d : Word) (ovr : SegOverride) : Statement (.read8BxDiDisp16 d ovr) :=
  intro 0 8 0xFFFF0000 0x00110000 0xFFFF rfl (by decide) (by decide) rfl rfl (mode_masked_disp16 17 (by decide)) (BitVec.zero_and)

theorem read8BpSiDisp16 (d : Word) (ovr : SegOverride) : Statement (.read8BpSiDisp16 d ovr) :=
  intro 0 8 0xFFFF0000 0x00120000 0xFFFF rfl (by decide) (by decide) rfl rfl (mode_masked_disp16 18 (by decide)) (BitVec.zero_and)

theorem read8BpDiDisp16 (d : Word) (ovr : SegOverride) : Statement (.read8BpDiDisp16 d ovr) :=
  intro 0 8 0xFFFF0000 0x00130000 0xFFFF rfl (by decide) (by decide) rfl rfl (mode_masked_disp16 19 (by decide)) (BitVec.zero_and)

theorem read8SiDisp16 (d : Word) (ovr : SegOverride) : Statement (.read8SiDisp16 d ovr) :=
  intro 0 8 0xFFFF0000 0x00140000 0xFFFF rfl (by decide) (by decide) rfl rfl (mode_masked_disp16 20 (by decide)) (BitVec.zero_and)

theorem read8DiDisp16 (d : Word) (ovr : SegOverride) : Statement (.read8DiDisp16 d ovr) :=
  intro 0 8 0xFFFF0000 0x00150000 0xFFFF rfl (by decide) (by decide) rfl rfl (mode_masked_disp16 21 (by decide)) (BitVec.zero_and)

theorem read8BpDisp16 (d : Word) (ovr : SegOverride) : Statement (.read8BpDisp16 d ovr) :=
  intro 0 8 0xFFFF0000 0x00160000 0xFFFF rfl (by decide) (by decide) rfl rfl (mode_masked_disp16 22 (by decide)) (BitVec.zero_and)

theorem read8BxDisp16 (d : Word) (ovr : SegOverride) : Statement (.read8BxDisp16 d ovr) :=
  intro 0 8 0xFFFF0000 0x00170000 0xFFFF rfl (by decide) (by decide) rfl rfl (mode_masked_disp16 23 (by decide)) (BitVec.zero_and)

theorem read8Disp16 (d : Word) (ovr : SegOverride) : Statement (.read8Disp16 d ovr) :=
  intro 0 8 0xFFFF0000 0x00180000 0xFFFF rfl (by decide) (by decide) rfl rfl (mode_masked_disp16 24 (by decide)) (BitVec.zero_and)

theorem read8RegisterMode (ovr : SegOverride) : Statement (.read8RegisterMode ovr) :=
  intro 0 8 0xFFFFFFFF 0x00190000 0xFFFF rfl (by decide) (by decide) rfl rfl (mode_masked 25 (by decide)) (BitVec.zero_and)

theorem read8NearAddress (a : Word) (ovr : SegOverride) : Statement (.read8NearAddress a ovr) :=
  intro 0 9 0xFFFF0000 0x00000000 0xFFFF rfl (by decide) (by decide) rfl rfl (word_masked _) (BitVec.zero_and)

theorem read8FarAddress (seg : Word) (off : Word) (ovr : SegOverride) : Statement (.read8FarAddress seg off ovr) :=
  intro 0 10 0x00000000 0x00000000 0xFFFF rfl (by decide) (by decide) rfl rfl (BitVec.and_zero) (BitVec.zero_and)

theorem read8NoOperand (ovr : SegOverride) : Statement (.read8NoOperand ovr) :=
  intro 0 11 0xFFFFFFFF 0x00000000 0xFFFF rfl (by decide) (by decide) rfl rfl (BitVec.zero_and) (BitVec.zero_and)

theorem read8InvalidOperand (ovr : SegOverride) : Statement (.read8InvalidOperand ovr) :=
  intro 0 12 0xFFFFFFFF 0x00000000 0xFFFF rfl (by decide) (by decide) rfl rfl (BitVec.zero_and) (BitVec.zero_and)

theorem read16Immediate8 (v : Byte) (ovr : SegOverride) : Statement (.read16Immediate8 v ovr) :=
  intro 1 0 0xFFFFFF00 0x00000000 0xFFFF rfl (by decide) (by decide) rfl rfl (byte_masked _) (BitVec.zero_and)

theorem read16Immediate16 (v : Word) (ovr : SegOverride) : Statement (.read16Immediate16 v ovr) :=
  intro 1 1 0xFFFF0000 0x00000000 0xFFFF rfl (by decide) (by decide) rfl rfl (word_masked _) (BitVec.zero_and)

theorem read16Relative8 (r : Byte) (ovr : SegOverride) : Statement (.read16Relative8 r ovr) :=
  intro 1 2 0xFFFFFF00 0x00000000 0xFFFF rfl (by decide) (by decide) rfl rfl (byte_masked _) (BitVec.zero_and)

theorem read16Relative16 (r : Word) (ovr : SegOverride) : Statement (.read16Relative16 r ovr) :=
  intro 1 3 0xFFFF0000 0x00000000 0xFFFF rfl (by decide) (by decide) rfl rfl (word_masked _) (BitVec.zero_and)

theorem read16Offset8 (o : Word) (ovr : SegOverride) : Statement (.read16Offset8 o ovr) :=
  intro 1 4 0xFFFF0000 0x00000000 0xFFFF rfl (by decide) (by decide) rfl rfl (word_masked _) (BitVec.zero_and)

theorem read16Offset16 (o : Word) (ovr : SegOverride) : Statement (.read16Offset16 o ovr) :=
  intro 1 5 0xFFFF0000 0x00000000 0xFFFF rfl (by decide) (by decide) rfl rfl (word_masked _) (BitVec.zero_and)

theorem read16Register8 (id : Reg8) (ovr : SegOverride) : Statement (.read16Register8 id ovr) :=
  intro 1 6 0xFFFFFFF8 0x00000000 0xFFFF rfl (by decide) (by decide) rfl rfl (code3_masked _) (BitVec.zero_and)

theorem read16Register16 (id : Reg16Id) (ovr : SegOverride) : Statement (.read16Register16 id ovr) :=
  intro 1 7 0xFFFFFFF0 0x00000000 0xFFFF rfl (by decide) (by decide) rfl rfl (code4_masked _) (BitVec.zero_and)

theorem read16BxSi (ovr : SegOverride) : Statement (.read16BxSi ovr) :=
  intro 1 8 0xFFFFFFFF 0x00000000 0xFFFF rfl (by decide) (by decide) rfl rfl (mode_masked 0 (by decide)) (BitVec.zero_and)

theorem read16BxDi (ovr : SegOverride) : Statement (.read16BxDi ovr) :=
  intro 1 8 0xFFFFFFFF 0x00010000 0xFFFF rfl (by decide) (by decide) rfl rfl (mode_masked 1 (by decide)) (BitVec.zero_and)

theorem read16BpSi (ovr : SegOverride) : Statement (.read16BpSi ovr) :=
  intro 1 8 0xFFFFFFFF 0x00020000 0xFFFF rfl (by decide) (by decide) rfl rfl (mode_masked 2 (by decide)) (BitVec.zero_and)

theorem read16BpDi (ovr : SegOverride) : Statement (.read16BpDi ovr) :=
  intro 1 8 0xFFFFFFFF 0x00030000 0xFFFF rfl (by decide) (by decide) rfl rfl (mode_masked 3 (by decide)) (BitVec.zero_and)

theorem read16Si (ovr : SegOverride) : Statement (.read16Si ovr) :=
  intro 1 8 0xFFFFFFFF 0x00040000 0xFFFF rfl (by decide) (by decide) rfl rfl (mode_masked 4 (by decide)) (BitVec.zero_and)

theorem read16Di (ovr : SegOverride) : Statement (.read16Di ovr) :=
  intro 1 8 0xFFFFFFFF 0x00050000 0xFFFF rfl (by decide) (by decide) rfl rfl (mode_masked 5 (by decide)) (BitVec.zero_and)

theorem read16Bp (ovr : SegOverride) : Statement (.read16Bp ovr) :=
  intro 1 8 0xFFFFFFFF 0x00060000 0xFFFF rfl (by decide) (by decide) rfl rfl (mode_masked 6 (by decide)) (BitVec.zero_and)

theorem read16Bx (ovr : SegOverride) : Statement (.read16Bx ovr) :=
  intro 1 8 0xFFFFFFFF 0x00070000 0xFFFF rfl (by decide) (by decide) rfl rfl (mode_masked 7 (by decide)) (BitVec.zero_and)

theorem read16BxSiDisp8 (d : Byte) (ovr : SegOverride) : Statement (.read16BxSiDisp8 d ovr) :=
  intro 1 8 0xFFFFFF00 0x00080000 0xFFFF rfl (by decide) (by decide) rfl rfl (mode_masked_disp8 8 (by decide)) (BitVec.zero_and)

theorem read16BxDiDisp8 (d : Byte) (ovr : SegOverride) : Statement (.read16BxDiDisp8 d ovr) :=
  intro 1 8 0xFFFFFF00 0x00090000 0xFFFF rfl (by decide) (by decide) rfl rfl (mode_masked_disp8 9 (by decide)) (BitVec.zero_and)

theorem read16BpSiDisp8 (d : Byte) (ovr : SegOverride) : Statement (.read16BpSiDisp8 d ovr) :=
  intro 1 8 0xFFFFFF00 0x000A0000 0xFFFF rfl (by decide) (by decide) rfl rfl (mode_masked_disp8 10 (by decide)) (BitVec.zero_and)

theorem read16BpDiDisp8 (d : Byte) (ovr : SegOverride) : Statement (.read16BpDiDisp8 d ovr) :=
  intro 1 8 0xFFFFFF00 0x000B0000 0xFFFF rfl (by decide) (by decide) rfl rfl (mode_masked_disp8 11 (by decide)) (BitVec.zero_and)

theorem read16SiDisp8 (d : Byte) (ovr : SegOverride) : Statement (.read16SiDisp8 d ovr) :=
  intro 1 8 0xFFFFFF00 0x000C0000 0xFFFF rfl (by decide) (by decide) rfl rfl (mode_masked_disp8 12 (by decide)) (BitVec.zero_and)

theorem read16DiDisp8 (d : Byte) (ovr : SegOverride) : Statement (.read16DiDisp8 d ovr) :=
  intro 1 8 0xFFFFFF00 0x000D0000 0xFFFF rfl (by decide) (by decide) rfl rfl (mode_masked_disp8 13 (by decide)) (BitVec.zero_and)

theorem read16BpDisp8 (d : Byte) (ovr : SegOverride) : Statement (.read16BpDisp8 d ovr) :=
  intro 1 8 0xFFFFFF00 0x000E0000 0xFFFF rfl (by decide) (by decide) rfl rfl (mode_masked_disp8 14 (by decide)) (BitVec.zero_and)

theorem read16BxDisp8 (d : Byte) (ovr : SegOverride) : Statement (.read16BxDisp8 d ovr) :=
  intro 1 8 0xFFFFFF00 0x000F0000 0xFFFF rfl (by decide) (by decide) rfl rfl (mode_masked_disp8 15 (by decide)) (BitVec.zero_and)

theorem read16BxSiDisp16 (d : Word) (ovr : SegOverride) : Statement (.read16BxSiDisp16 d ovr) :=
  intro 1 8 0xFFFF0000 0x00100000 0xFFFF rfl (by decide) (by decide) rfl rfl (mode_masked_disp16 16 (by decide)) (BitVec.zero_and)

theorem read16BxDiDisp16 (d : Word) (ovr : SegOverride) : Statement (.read16BxDiDisp16 d ovr) :=
  intro 1 8 0xFFFF0000 0x00110000 0xFFFF rfl (by decide) (by decide) rfl rfl (mode_masked_disp16 17 (by decide)) (BitVec.zero_and)

theorem read16BpSiDisp16 (d : Word) (ovr : SegOverride) : Statement (.read16BpSiDisp16 d ovr) :=
  intro 1 8 0xFFFF0000 0x00120000 0xFFFF rfl (by decide) (by decide) rfl rfl (mode_masked_disp16 18 (by decide)) (BitVec.zero_and)

theorem read16BpDiDisp16 (d : Word) (ovr : SegOverride) : Statement (.read16BpDiDisp16 d ovr) :=
  intro 1 8 0xFFFF0000 0x00130000 0xFFFF rfl (by decide) (by decide) rfl rfl (mode_masked_disp16 19 (by decide)) (BitVec.zero_and)

theorem read16SiDisp16 (d : Word) (ovr : SegOverride) : Statement (.read16SiDisp16 d ovr) :=
  intro 1 8 0xFFFF0000 0x00140000 0xFFFF rfl (by decide) (by decide) rfl rfl (mode_masked_disp16 20 (by decide)) (BitVec.zero_and)

theorem read16DiDisp16 (d : Word) (ovr : SegOverride) : Statement (.read16DiDisp16 d ovr) :=
  intro 1 8 0xFFFF0000 0x00150000 0xFFFF rfl (by decide) (by decide) rfl rfl (mode_masked_disp16 21 (by decide)) (BitVec.zero_and)

theorem read16BpDisp16 (d : Word) (ovr : SegOverride) : Statement (.read16BpDisp16 d ovr) :=
  intro 1 8 0xFFFF0000 0x00160000 0xFFFF rfl (by decide) (by decide) rfl rfl (mode_masked_disp16 22 (by decide)) (BitVec.zero_and)

theorem read16BxDisp16 (d : Word) (ovr : SegOverride) : Statement (.read16BxDisp16 d ovr) :=
  intro 1 8 0xFFFF0000 0x00170000 0xFFFF rfl (by decide) (by decide) rfl rfl (mode_masked_disp16 23 (by decide)) (BitVec.zero_and)

theorem read16Disp16 (d : Word) (ovr : SegOverride) : Statement (.read16Disp16 d ovr) :=
  intro 1 8 0xFFFF0000 0x00180000 0xFFFF rfl (by decide) (by decide) rfl rfl (mode_masked_disp16 24 (by decide)) (BitVec.zero_and)

theorem read16RegisterMode (ovr : SegOverride) : Statement (.read16RegisterMode ovr) :=
  intro 1 8 0xFFFFFFFF 0x00190000 0xFFFF rfl (by decide) (by decide) rfl rfl (mode_masked 25 (by decide)) (BitVec.zero_and)

theorem read16NearAddress (a : Word) (ovr : SegOverride) : Statement (.read16NearAddress a ovr) :=
  intro 1 9 0xFFFF0000 0x00000000 0xFFFF rfl (by decide) (by decide) rfl rfl (word_masked _) (BitVec.zero_and)

theorem read16FarAddress (seg : Word) (off : Word) (ovr : SegOverride) : Statement (.read16FarAddress seg off ovr) :=
  intro 1 10 0x00000000 0x00000000 0xFFFF rfl (by decide) (by decide) rfl rfl (BitVec.and_zero) (BitVec.zero_and)

theorem read16NoOperand (ovr : SegOverride) : Statement (.read16NoOperand ovr) :=
  intro 1 11 0xFFFFFFFF 0x00000000 0xFFFF rfl (by decide) (by decide) rfl rfl (BitVec.zero_and) (BitVec.zero_and)

theorem read16InvalidOperand (ovr : SegOverride) : Statement (.read16InvalidOperand ovr) :=
  intro 1 12 0xFFFFFFFF 0x00000000 0xFFFF rfl (by decide) (by decide) rfl rfl (BitVec.zero_and) (BitVec.zero_and)

theorem write8Immediate8 (v : Byte) (ovr : SegOverride) (value : Byte) : Statement (.write8Immediate8 v ovr value) :=
  intro 2 0 0xFFFFFF00 0x00000000 0xFF00 rfl (by decide) (by decide) rfl rfl (byte_masked _) (value8_masked _)

theorem write8Immediate16 (v : Word) (ovr : SegOverride) (value : Byte) : Statement (.write8Immediate16 v ovr value) :=
  intro 2 1 0xFFFF0000 0x00000000 0xFF00 rfl (by decide) (by decide) rfl rfl (word_masked _) (value8_masked _)

theorem write8Relative8 (r : Byte) (ovr : SegOverride) (value : Byte) : Statement (.write8Relative8 r ovr value) :=
  intro 2 2 0xFFFFFF00 0x00000000 0xFF00 rfl (by decide) (by decide) rfl rfl (byte_masked _) (value8_masked _)

theorem write8Relative16 (r : Word) (ovr : SegOverride) (value : Byte) : Statement (.write8Relative16 r ovr value) :=
  intro 2 3 0xFFFF0000 0x00000000 0xFF00 rfl (by decide) (by decide) rfl rfl (word_masked _) (value8_masked _)

theorem write8Offset8 (o : Word) (ovr : SegOverride) (value : Byte) : Statement (.write8Offset8 o ovr value) :=
  intro 2 4 0xFFFF0000 0x00000000 0xFF00 rfl (by decide) (by decide) rfl rfl (word_masked _) (value8_masked _)

theorem write8Offset16 (o : Word) (ovr : SegOverride) (value : Byte) : Statement (.write8Offset16 o ovr value) :=
  intro 2 5 0xFFFF0000 0x00000000 0xFF00 rfl (by decide) (by decide) rfl rfl (word_masked _) (value8_masked _)

theorem write8Register8 (id : Reg8) (ovr : SegOverride) (value : Byte) : Statement (.write8Register8 id ovr value) :=
  intro 2 6 0xFFFFFFF8 0x00000000 0xFF00 rfl (by decide) (by decide) rfl rfl (code3_masked _) (value8_masked _)

theorem write8Register16 (id : Reg16Id) (ovr : SegOverride) (value : Byte) : Statement (.write8Register16 id ovr value) :=
  intro 2 7 0xFFFFFFF0 0x00000000 0xFF00 rfl (by decide) (by decide) rfl rfl (code4_masked _) (value8_masked _)

theorem write8BxSi (ovr : SegOverride) (value : Byte) : Statement (.write8BxSi ovr value) :=
  intro 2 8 0xFFFFFFFF 0x00000000 0xFF00 rfl (by decide) (by decide) rfl rfl (mode_masked 0 (by decide)) (value8_masked _)

theorem write8BxDi (ovr : SegOverride) (value : Byte) : Statement (.write8BxDi ovr value) :=
  intro 2 8 0xFFFFFFFF 0x00010000 0xFF00 rfl (by decide) (by decide) rfl rfl (mode_masked 1 (by decide)) (value8_masked _)

theorem write8BpSi (ovr : SegOverride) (value : Byte) : Statement (.write8BpSi ovr value) :=
  intro 2 8 0xFFFFFFFF 0x00020000 0xFF00 rfl (by decide) (by decide) rfl rfl (mode_masked 2 (by decide)) (value8_masked _)

theorem write8BpDi (ovr : SegOverride) (value : Byte) : Statement (.write8BpDi ovr value) :=
  intro 2 8 0xFFFFFFFF 0x00030000 0xFF00 rfl (by decide) (by decide) rfl rfl (mode_masked 3 (by decide)) (value8_masked _)

theorem write8Si (ovr : SegOverride) (value : Byte) : Statement (.write8Si ovr value) :=
  intro 2 8 0xFFFFFFFF 0x00040000 0xFF00 rfl (by decide) (by decide) rfl rfl (mode_masked 4 (by decide)) (value8_masked _)

theorem write8Di (ovr : SegOverride) (value : Byte) : Statement (.write8Di ovr value) :=
  intro 2 8 0xFFFFFFFF 0x00050000 0xFF00 rfl (by decide) (by decide) rfl rfl (mode_masked 5 (by decide)) (value8_masked _)

theorem write8Bp (ovr : SegOverride) (value : Byte) : Statement (.write8Bp ovr value) :=
  intro 2 8 0xFFFFFFFF 0x00060000 0xFF00 rfl (by decide) (by decide) rfl rfl (mode_masked 6 (by decide)) (value8_masked _)

theorem write8Bx (ovr : SegOverride) (value : Byte) : Statement (.write8Bx ovr value) :=
  intro 2 8 0xFFFFFFFF 0x00070000 0xFF00 rfl (by decide) (by decide) rfl rfl (mode_masked 7 (by decide)) (value8_masked _)

theorem write8BxSiDisp8 (d : Byte) (ovr : SegOverride) (value : Byte) : Statement (.write8BxSiDisp8 d ovr value) :=
  intro 2 8 0xFFFFFF00 0x00080000 0xFF00 rfl (by decide) (by decide) rfl rfl (mode_masked_disp8 8 (by decide)) (value8_masked _)

theorem write8BxDiDisp8 (d : Byte) (ovr : SegOverride) (value : Byte) : Statement (.write8BxDiDisp8 d ovr value) :=
  intro 2 8 0xFFFFFF00 0x00090000 0xFF00 rfl (by decide) (by decide) rfl rfl (mode_masked_disp8 9 (by decide)) (value8_masked _)

theorem write8BpSiDisp8 (d : Byte) (ovr : SegOverride) (value : Byte) : Statement (.write8BpSiDisp8 d ovr value) :=
  intro 2 8 0xFFFFFF00 0x000A0000 0xFF00 rfl (by decide) (by decide) rfl rfl (mode_masked_disp8 10 (by decide)) (value8_masked _)

theorem write8BpDiDisp8 (d : Byte) (ovr : SegOverride) (value : Byte) : Statement (.write8BpDiDisp8 d ovr value) :=
  intro 2 8 0xFFFFFF00 0x000B0000 0xFF00 rfl (by decide) (by decide) rfl rfl (mode_masked_disp8 11 (by decide)) (value8_masked _)

theorem write8SiDisp8 (d : Byte) (ovr : SegOverride) (value : Byte) : Statement (.write8SiDisp8 d ovr value) :=
  intro 2 8 0xFFFFFF00 0x000C0000 0xFF00 rfl (by decide) (by decide) rfl rfl (mode_masked_disp8 12 (by decide)) (value8_masked _)

theorem write8DiDisp8 (d : Byte) (ovr : SegOverride) (value : Byte) : Statement (.write8DiDisp8 d ovr value) :=
  intro 2 8 0xFFFFFF00 0x000D0000 0xFF00 rfl (by decide) (by decide) rfl rfl (mode_masked_disp8 13 (by decide)) (value8_masked _)

theorem write8BpDisp8 (d : Byte) (ovr : SegOverride) (value : Byte) : Statement (.write8BpDisp8 d ovr value) :=
  intro 2 8 0xFFFFFF00 0x000E0000 0xFF00 rfl (by decide) (by decide) rfl rfl (mode_masked_disp8 14 (by decide)) (value8_masked _)

theorem write8BxDisp8 (d : Byte) (ovr : SegOverride) (value : Byte) : Statement (.write8BxDisp8 d ovr value) :=
  intro 2 8 0xFFFFFF00 0x000F0000 0xFF00 rfl (by decide) (by decide) rfl rfl (mode_masked_disp8 15 (by decide)) (value8_masked _)

theorem write8BxSiDisp16 (d : Word) (ovr : SegOverride) (value : Byte) : Statement (.write8BxSiDisp16 d ovr value) :=
  intro 2 8 0xFFFF0000 0x00100000 0xFF00 rfl (by decide) (by decide) rfl rfl (mode_masked_disp16 16 (by decide)) (value8_masked _)

theorem write8BxDiDisp16 (d : Word) (ovr : SegOverride) (value : Byte) : Statement (.write8BxDiDisp16 d ovr value) :=
  intro 2 8 0xFFFF0000 0x00110000 0xFF00 rfl (by decide) (by decide) rfl rfl (mode_masked_disp16 17 (by decide)) (value8_masked _)

theorem write8BpSiDisp16 (d : Word) (ovr : SegOverride) (value : Byte) : Statement (.write8BpSiDisp16 d ovr value) :=
  intro 2 8 0xFFFF0000 0x00120000 0xFF00 rfl (by decide) (by decide) rfl rfl (mode_masked_disp16 18 (by decide)) (value8_masked _)

theorem write8BpDiDisp16 (d : Word) (ovr : SegOverride) (value : Byte) : Statement (.write8BpDiDisp16 d ovr value) :=
  intro 2 8 0xFFFF0000 0x00130000 0xFF00 rfl (by decide) (by decide) rfl rfl (mode_masked_disp16 19 (by decide)) (value8_masked _)

theorem write8SiDisp16 (d : Word) (ovr : SegOverride) (value : Byte) : Statement (.write8SiDisp16 d ovr value) :=
  intro 2 8 0xFFFF0000 0x00140000 0xFF00 rfl (by decide) (by decide) rfl rfl (mode_masked_disp16 20 (by decide)) (value8_masked _)

theorem write8DiDisp16 (d : Word) (ovr : SegOverride) (value : Byte) : Statement (.write8DiDisp16 d ovr value) :=
  intro 2 8 0xFFFF0000 0x00150000 0xFF00 rfl (by decide) (by decide) rfl rfl (mode_masked_disp16 21 (by decide)) (value8_masked _)

theorem write8BpDisp16 (d : Word) (ovr : SegOverride) (value : Byte) : Statement (.write8BpDisp16 d ovr value) :=
  intro 2 8 0xFFFF0000 0x00160000 0xFF00 rfl (by decide) (by decide) rfl rfl (mode_masked_disp16 22 (by decide)) (value8_masked _)

theorem write8BxDisp16 (d : Word) (ovr : SegOverride) (value : Byte) : Statement (.write8BxDisp16 d ovr value) :=
  intro 2 8 0xFFFF0000 0x00170000 0xFF00 rfl (by decide) (by decide) rfl rfl (mode_masked_disp16 23 (by decide)) (value8_masked _)

theorem write8Disp16 (d : Word) (ovr : SegOverride) (value : Byte) : Statement (.write8Disp16 d ovr value) :=
  intro 2 8 0xFFFF0000 0x00180000 0xFF00 rfl (by decide) (by decide) rfl rfl (mode_masked_disp16 24 (by decide)) (value8_masked _)

theorem write8RegisterMode (ovr : SegOverride) (value : Byte) : Statement (.write8RegisterMode ovr value) :=
  intro 2 8 0xFFFFFFFF 0x00190000 0xFF00 rfl (by decide) (by decide) rfl rfl (mode_masked 25 (by decide)) (value8_masked _)

theorem write8NearAddress (a : Word) (ovr : SegOverride) (value : Byte) : Statement (.write8NearAddress a ovr value) :=
  intro 2 9 0xFFFF0000 0x00000000 0xFF00 rfl (by decide) (by decide) rfl rfl (word_masked _) (value8_masked _)

theorem write8FarAddress (seg : Word) (off : Word) (ovr : SegOverride) (value : Byte) : Statement (.write8FarAddress seg off ovr value) :=
  intro 2 10 0x00000000 0x00000000 0xFF00 rfl (by decide) (by decide) rfl rfl (BitVec.and_zero) (value8_masked _)

theorem write8NoOperand (ovr : SegOverride) (value : Byte) : Statement (.write8NoOperand ovr value) :=
  intro 2 11 0xFFFFFFFF 0x00000000 0xFF00 rfl (by decide) (by decide) rfl rfl (BitVec.zero_and) (value8_masked _)

theorem write8InvalidOperand (ovr : SegOverride) (value : Byte) : Statement (.write8InvalidOperand ovr value) :=
  intro 2 12 0xFFFFFFFF 0x00000000 0xFF00 rfl (by decide) (by decide) rfl rfl (BitVec.zero_and) (value8_masked _)

theorem write16Immediate8 (v : Byte) (ovr : SegOverride) (value : Word) : Statement (.write16Immediate8 v ovr value) :=
  intro 3 0 0xFFFFFF00 0x00000000 0 rfl (by decide) (by decide) rfl rfl (byte_masked _) (BitVec.and_zero)

theorem write16Immediate16 (v : Word) (ovr : SegOverride) (value : Word) : Statement (.write16Immediate16 v ovr value) :=
  intro 3 1 0xFFFF0000 0x00000000 0 rfl (by decide) (by decide) rfl rfl (word_masked _) (BitVec.and_zero)

theorem write16Relative8 (r : Byte) (ovr : SegOverride) (value : Word) : Statement (.write16Relative8 r ovr value) :=
  intro 3 2 0xFFFFFF00 0x00000000 0 rfl (by decide) (by decide) rfl rfl (byte_masked _) (BitVec.and_zero)

theorem write16Relative16 (r : Word) (ovr : SegOverride) (value : Word) : Statement (.write16Relative16 r ovr value) :=
  intro 3 3 0xFFFF0000 0x00000000 0 rfl (by decide) (by decide) rfl rfl (word_masked _) (BitVec.and_zero)

theorem write16Offset8 (o : Word) (ovr : SegOverride) (value : Word) : Statement (.write16Offset8 o ovr value) :=
  intro 3 4 0xFFFF0000 0x00000000 0 rfl (by decide) (by decide) rfl rfl (word_masked _) (BitVec.and_zero)

theorem write16Offset16 (o : Word) (ovr : SegOverride) (value : Word) : Statement (.write16Offset16 o ovr value) :=
  intro 3 5 0xFFFF0000 0x00000000 0 rfl (by decide) (by decide) rfl rfl (word_masked _) (BitVec.and_zero)

theorem write16Register8 (id : Reg8) (ovr : SegOverride) (value : Word) : Statement (.write16Register8 id ovr value) :=
  intro 3 6 0xFFFFFFF8 0x00000000 0 rfl (by decide) (by decide) rfl rfl (code3_masked _) (BitVec.and_zero)

theorem write16Register16 (id : Reg16Id) (ovr : SegOverride) (value : Word) : Statement (.write16Register16 id ovr value) :=
  intro 3 7 0xFFFFFFF0 0x00000000 0 rfl (by decide) (by decide) rfl rfl (code4_masked _) (BitVec.and_zero)

theorem write16BxSi (ovr : SegOverride) (value : Word) : Statement (.write16BxSi ovr value) :=
  intro 3 8 0xFFFFFFFF 0x00000000 0 rfl (by decide) (by decide) rfl rfl (mode_masked 0 (by decide)) (BitVec.and_zero)

theorem write16BxDi (ovr : SegOverride) (value : Word) : Statement (.write16BxDi ovr value) :=
  intro 3 8 0xFFFFFFFF 0x00010000 0 rfl (by decide) (by decide) rfl rfl (mode_masked 1 (by decide)) (BitVec.and_zero)

theorem write16BpSi (ovr : SegOverride) (value : Word) : Statement (.write16BpSi ovr value) :=
  intro 3 8 0xFFFFFFFF 0x00020000 0 rfl (by decide) (by decide) rfl rfl (mode_masked 2 (by decide)) (BitVec.and_zero)

theorem write16BpDi (ovr : SegOverride) (value : Word) : Statement (.write16BpDi ovr value) :=
  intro 3 8 0xFFFFFFFF 0x00030000 0 rfl (by decide) (by decide) rfl rfl (mode_masked 3 (by decide)) (BitVec.and_zero)

theorem write16Si (ovr : SegOverride) (value : Word) : Statement (.write16Si ovr value) :=
  intro 3 8 0xFFFFFFFF 0x00040000 0 rfl (by decide) (by decide) rfl rfl (mode_masked 4 (by decide)) (BitVec.and_zero)

theorem write16Di (ovr : SegOverride) (value : Word) : Statement (.write16Di ovr value) :=
  intro 3 8 0xFFFFFFFF 0x00050000 0 rfl (by decide) (by decide) rfl rfl (mode_masked 5 (by decide)) (BitVec.and_zero)

theorem write16Bp (ovr : SegOverride) (value : Word) : Statement (.write16Bp ovr value) :=
  intro 3 8 0xFFFFFFFF 0x00060000 0 rfl (by decide) (by decide) rfl rfl (mode_masked 6 (by decide)) (BitVec.and_zero)

theorem write16Bx (ovr : SegOverride) (value : Word) : Statement (.write16Bx ovr value) :=
  intro 3 8 0xFFFFFFFF 0x00070000 0 rfl (by decide) (by decide) rfl rfl (mode_masked 7 (by decide)) (BitVec.and_zero)

theorem write16BxSiDisp8 (d : Byte) (ovr : SegOverride) (value : Word) : Statement (.write16BxSiDisp8 d ovr value) :=
  intro 3 8 0xFFFFFF00 0x00080000 0 rfl (by decide) (by decide) rfl rfl (mode_masked_disp8 8 (by decide)) (BitVec.and_zero)

theorem write16BxDiDisp8 (d : Byte) (ovr : SegOverride) (value : Word) : Statement (.write16BxDiDisp8 d ovr value) :=
  intro 3 8 0xFFFFFF00 0x00090000 0 rfl (by decide) (by decide) rfl rfl (mode_masked_disp8 9 (by decide)) (BitVec.and_zero)

theorem write16BpSiDisp8 (d : Byte) (ovr : SegOverride) (value : Word) : Statement (.write16BpSiDisp8 d ovr value) :=
  intro 3 8 0xFFFFFF00 0x000A0000 0 rfl (by decide) (by decide) rfl rfl (mode_masked_disp8 10 (by decide)) (BitVec.and_zero)

theorem write16BpDiDisp8 (d : Byte) (ovr : SegOverride) (value : Word) : Statement (.write16BpDiDisp8 d ovr value) :=
  intro 3 8 0xFFFFFF00 0x000B0000 0 rfl (by decide) (by decide) rfl rfl (mode_masked_disp8 11 (by decide)) (BitVec.and_zero)

theorem write16SiDisp8 (d : Byte) (ovr : SegOverride) (value : Word) : Statement (.write16SiDisp8 d ovr value) :=
  intro 3 8 0xFFFFFF00 0x000C0000 0 rfl (by decide) (by decide) rfl rfl (mode_masked_disp8 12 (by decide)) (BitVec.and_zero)

theorem write16DiDisp8 (d : Byte) (ovr : SegOverride) (value : Word) : Statement (.write16DiDisp8 d ovr value) :=
  intro 3 8 0xFFFFFF00 0x000D0000 0 rfl (by decide) (by decide) rfl rfl (mode_masked_disp8 13 (by decide)) (BitVec.and_zero)

theorem write16BpDisp8 (d : Byte) (ovr : SegOverride) (value : Word) : Statement (.write16BpDisp8 d ovr value) :=
  intro 3 8 0xFFFFFF00 0x000E0000 0 rfl (by decide) (by decide) rfl rfl (mode_masked_disp8 14 (by decide)) (BitVec.and_zero)

theorem write16BxDisp8 (d : Byte) (ovr : SegOverride) (value : Word) : Statement (.write16BxDisp8 d ovr value) :=
  intro 3 8 0xFFFFFF00 0x000F0000 0 rfl (by decide) (by decide) rfl rfl (mode_masked_disp8 15 (by decide)) (BitVec.and_zero)

theorem write16BxSiDisp16 (d : Word) (ovr : SegOverride) (value : Word) : Statement (.write16BxSiDisp16 d ovr value) :=
  intro 3 8 0xFFFF0000 0x00100000 0 rfl (by decide) (by decide) rfl rfl (mode_masked_disp16 16 (by decide)) (BitVec.and_zero)

theorem write16BxDiDisp16 (d : Word) (ovr : SegOverride) (value : Word) : Statement (.write16BxDiDisp16 d ovr value) :=
  intro 3 8 0xFFFF0000 0x00110000 0 rfl (by decide) (by decide) rfl rfl (mode_masked_disp16 17 (by decide)) (BitVec.and_zero)

theorem write16BpSiDisp16 (d : Word) (ovr : SegOverride) (value : Word) : Statement (.write16BpSiDisp16 d ovr value) :=
  intro 3 8 0xFFFF0000 0x00120000 0 rfl (by decide) (by decide) rfl rfl (mode_masked_disp16 18 (by decide)) (BitVec.and_zero)

theorem write16BpDiDisp16 (d : Word) (ovr : SegOverride) (value : Word) : Statement (.write16BpDiDisp16 d ovr value) :=
  intro 3 8 0xFFFF0000 0x00130000 0 rfl (by decide) (by decide) rfl rfl (mode_masked_disp16 19 (by decide)) (BitVec.and_zero)

theorem write16SiDisp16 (d : Word) (ovr : SegOverride) (value : Word) : Statement (.write16SiDisp16 d ovr value) :=
  intro 3 8 0xFFFF0000 0x00140000 0 rfl (by decide) (by decide) rfl rfl (mode_masked_disp16 20 (by decide)) (BitVec.and_zero)

theorem write16DiDisp16 (d : Word) (ovr : SegOverride) (value : Word) : Statement (.write16DiDisp16 d ovr value) :=
  intro 3 8 0xFFFF0000 0x00150000 0 rfl (by decide) (by decide) rfl rfl (mode_masked_disp16 21 (by decide)) (BitVec.and_zero)

theorem write16BpDisp16 (d : Word) (ovr : SegOverride) (value : Word) : Statement (.write16BpDisp16 d ovr value) :=
  intro 3 8 0xFFFF0000 0x00160000 0 rfl (by decide) (by decide) rfl rfl (mode_masked_disp16 22 (by decide)) (BitVec.and_zero)

theorem write16BxDisp16 (d : Word) (ovr : SegOverride) (value : Word) : Statement (.write16BxDisp16 d ovr value) :=
  intro 3 8 0xFFFF0000 0x00170000 0 rfl (by decide) (by decide) rfl rfl (mode_masked_disp16 23 (by decide)) (BitVec.and_zero)

theorem write16Disp16 (d : Word) (ovr : SegOverride) (value : Word) : Statement (.write16Disp16 d ovr value) :=
  intro 3 8 0xFFFF0000 0x00180000 0 rfl (by decide) (by decide) rfl rfl (mode_masked_disp16 24 (by decide)) (BitVec.and_zero)

theorem write16RegisterMode (ovr : SegOverride) (value : Word) : Statement (.write16RegisterMode ovr value) :=
  intro 3 8 0xFFFFFFFF 0x00190000 0 rfl (by decide) (by decide) rfl rfl (mode_masked 25 (by decide)) (BitVec.and_zero)

theorem write16NearAddress (a : Word) (ovr : SegOverride) (value : Word) : Statement (.write16NearAddress a ovr value) :=
  intro 3 9 0xFFFF0000 0x00000000 0 rfl (by decide) (by decide) rfl rfl (word_masked _) (BitVec.and_zero)

theorem write16FarAddress (seg : Word) (off : Word) (ovr : SegOverride) (value : Word) : Statement (.write16FarAddress seg off ovr value) :=
  intro 3 10 0x00000000 0x00000000 0 rfl (by decide) (by decide) rfl rfl (BitVec.and_zero) (BitVec.and_zero)

theorem write16NoOperand (ovr : SegOverride) (value : Word) : Statement (.write16NoOperand ovr value) :=
  intro 3 11 0xFFFFFFFF 0x00000000 0 rfl (by decide) (by decide) rfl rfl (BitVec.zero_and) (BitVec.and_zero)

theorem write16InvalidOperand (ovr : SegOverride) (value : Word) : Statement (.write16InvalidOperand ovr value) :=
  intro 3 12 0xFFFFFFFF 0x00000000 0 rfl (by decide) (by decide) rfl rfl (BitVec.zero_and) (BitVec.and_zero)

end TableRow

end Sys2Proof.Laws
end

