-- ==== Sys2Proof/Tests/Slice0.lean ====
section
/-! SUPPORT. Tests. Expected values are from the spec: the encodings of 30_encoding.md and the vectors of 95_test_vectors.md.
The second half holds, for every obligation with hypotheses, a witness: concrete arguments that meet all of them. -/

namespace Sys2Proof.Tests

open Sys2Proof.Machine

/-! ## Helpers -/

/-- The register state S0 of 41_ea_calculator.md. -/
def regsS0 : RegFile :=
  { ax := 0x1122, bx := 0x0200, cx := 0x3344, dx := 0x5566, sp := 0xFFFE, bp := 0x1000, si := 0x0050, di := 0xFFF0,
    cs := 0xF000, ds := 0x1000, es := 0xB800, ss := 0x2000 }

/-- The memory of 95_test_vectors.md 3.4. -/
def mem34 : Memory := [(0x10250, 0x9A), (0x10251, 0xBC), (0x11234, 0x34), (0x11235, 0x12), (0x21004, 0x78), (0x21005, 0x56)]

/-- A ready block at S0 on the reference bus with that memory. -/
def s0 : State := State.resetWith regsS0 (.ref ⟨mem34, []⟩) []

/-- The same with the unmapped set of 95_test_vectors.md 3.11. -/
def sUnmapped : State := State.resetWith regsS0 (.ref ⟨mem34, [⟨0xA0000, 0xBFFFF⟩]⟩) []

/-- S0 on an arbitrary bus. -/
def sPlatform : State := State.resetWith regsS0 (.platform ⟨0⟩) []

/-- A halted block. -/
def sHalted : State := { s0 with halted := true, diag := ⟨.registerModeEa, 0x0400001900000000⟩ }

/-- The state a step answers. -/
def nextState : StepResult → Option State
  | .next t => some t
  | .fault _ => none
  | .refused _ => none

/-- The response to a request word. -/
def answerTo (w : ReqWord) (s : State) : Option Response := (nextState (step (placeRequest w s))).bind State.response

/-- The registers after a request word. -/
def regsAfterStep (w : ReqWord) (s : State) : Option RegFile := (nextState (step (placeRequest w s))).map State.regs

/-- The memory of the reference bus after a request word. -/
def memAfterStep (w : ReqWord) (s : State) : Option Memory :=
  (nextState (step (placeRequest w s))).bind fun t =>
    match t.bus with
    | .ref b => some b.mem
    | .platform _ => none

/-- Whether the block is halted after a request word, and with which diagnostic. -/
def haltAfterStep (w : ReqWord) (s : State) : Option (Bool × Byte × ReqWord) :=
  (nextState (step (placeRequest w s))).map fun t => (t.halted, t.diag.cause.code, t.diag.req)

def okAnswer (v : Word) (c : Option Cost) : Response := ⟨.ok, v, c, none, .noFatal, 0⟩
def naAnswer : Response := ⟨.na, 0, none, none, .noFatal, 0⟩
def busErrorAnswer : Response := ⟨.busError, 0, none, some Config.unmapped, .noFatal, 0⟩
def fatalAnswer (c : Cause) (w : ReqWord) : Response := ⟨.fatal, 0, none, none, c, w⟩

/-- Segment, offset and linear address of a mode. -/
def addressOf (m : AddrMode) (ovr : SegOverride) (x : RegFile) : Option (Word × Word × Addr) :=
  (calcEa m ovr x).map fun p => (p.1, p.2, linearAddr p.1 p.2)

/-- The offset of a mode. -/
def offsetOf (m : AddrMode) (x : RegFile) : Option Word := (calcEa m .none x).map Prod.snd

/-! ## WellFormed: what it refuses -/

/-- The one check: an identity `bad(n)` whose code is a legal register's is no request (30_encoding.md R71). -/
theorem test_wf_refuses :
    (Instr.read8Register16 (.bad 0) .none).wf = false ∧ (Instr.read16Register16 (.bad 3) .none).wf = false ∧
    (Instr.write8Register16 (.bad 11) .none 0xA5).wf = false ∧ (Instr.write16Register16 (.bad 11) .es 0xBEEF).wf = false := by
  decide

theorem test_wf_accepts :
    (Instr.read16Register16 (.bad 12) .none).wf = true ∧ (Instr.write16Register16 (.bad 15) .none 0).wf = true ∧
    (Instr.read16Register16 (.reg .ss) .none).wf = true ∧ (Instr.write8FarAddress 1 2 .ds 3).wf = true := by
  decide

/-! ## Decode: words written out from 30_encoding.md -/

/-- Words of `read8` from 30_encoding.md R65 to R74. -/
theorem test_decode_read8_kinds :
    decode 0x00000000007F0000#64 = .ok (.read8Immediate8 0x7F .none) ∧
    decode 0x0880000012340000#64 = .ok (.read8Immediate16 0x1234 .es) ∧
    decode 0x1100000000FD0000#64 = .ok (.read8Relative8 0xFD .cs) ∧
    decode 0x19800000FED40000#64 = .ok (.read8Relative16 0xFED4 .ss) ∧
    decode 0x2200000012340000#64 = .ok (.read8Offset8 0x1234 .ds) ∧
    decode 0x0280000012340000#64 = .ok (.read8Offset16 0x1234 .none) ∧
    decode 0x0B00000000070000#64 = .ok (.read8Register8 .dl .es) ∧
    decode 0x1380000000060000#64 = .ok (.read8Register16 (.reg .si) .cs) ∧
    decode 0x2480000012340000#64 = .ok (.read8NearAddress 0x1234 .ds) ∧
    decode 0x0500123456780000#64 = .ok (.read8FarAddress 0x1234 0x5678 .none) ∧
    decode 0x0D80000000000000#64 = .ok (.read8NoOperand .es) ∧
    decode 0x1600000000000000#64 = .ok (.read8InvalidOperand .cs) := by
  decide

/-- Words of `read8` from 30_encoding.md R65 to R74. -/
theorem test_decode_read8_modes_plain :
    decode 0x1C00000000000000#64 = .ok (.read8BxSi .ss) ∧
    decode 0x2400000100000000#64 = .ok (.read8BxDi .ds) ∧
    decode 0x0400000200000000#64 = .ok (.read8BpSi .none) ∧
    decode 0x0C00000300000000#64 = .ok (.read8BpDi .es) ∧
    decode 0x1400000400000000#64 = .ok (.read8Si .cs) ∧
    decode 0x1C00000500000000#64 = .ok (.read8Di .ss) ∧
    decode 0x2400000600000000#64 = .ok (.read8Bp .ds) ∧
    decode 0x0400000700000000#64 = .ok (.read8Bx .none) ∧
    decode 0x1C00001900000000#64 = .ok (.read8RegisterMode .ss) := by
  decide

/-- Words of `read8` from 30_encoding.md R65 to R74. -/
theorem test_decode_read8_modes_disp8 :
    decode 0x0C00000800FC0000#64 = .ok (.read8BxSiDisp8 0xFC .es) ∧
    decode 0x1400000900FC0000#64 = .ok (.read8BxDiDisp8 0xFC .cs) ∧
    decode 0x1C00000A00FC0000#64 = .ok (.read8BpSiDisp8 0xFC .ss) ∧
    decode 0x2400000B00FC0000#64 = .ok (.read8BpDiDisp8 0xFC .ds) ∧
    decode 0x0400000C00FC0000#64 = .ok (.read8SiDisp8 0xFC .none) ∧
    decode 0x0C00000D00FC0000#64 = .ok (.read8DiDisp8 0xFC .es) ∧
    decode 0x1400000E00FC0000#64 = .ok (.read8BpDisp8 0xFC .cs) ∧
    decode 0x1C00000F00FC0000#64 = .ok (.read8BxDisp8 0xFC .ss) := by
  decide

/-- Words of `read8` from 30_encoding.md R65 to R74. -/
theorem test_decode_read8_modes_disp16 :
    decode 0x2400001080010000#64 = .ok (.read8BxSiDisp16 0x8001 .ds) ∧
    decode 0x0400001180010000#64 = .ok (.read8BxDiDisp16 0x8001 .none) ∧
    decode 0x0C00001280010000#64 = .ok (.read8BpSiDisp16 0x8001 .es) ∧
    decode 0x1400001380010000#64 = .ok (.read8BpDiDisp16 0x8001 .cs) ∧
    decode 0x1C00001480010000#64 = .ok (.read8SiDisp16 0x8001 .ss) ∧
    decode 0x2400001580010000#64 = .ok (.read8DiDisp16 0x8001 .ds) ∧
    decode 0x0400001680010000#64 = .ok (.read8BpDisp16 0x8001 .none) ∧
    decode 0x0C00001780010000#64 = .ok (.read8BxDisp16 0x8001 .es) ∧
    decode 0x1400001812340000#64 = .ok (.read8Disp16 0x1234 .cs) := by
  decide

/-- Words of `read16` from 30_encoding.md R65 to R74. -/
theorem test_decode_read16_kinds :
    decode 0x58000000007F0000#64 = .ok (.read16Immediate8 0x7F .ss) ∧
    decode 0x6080000012340000#64 = .ok (.read16Immediate16 0x1234 .ds) ∧
    decode 0x4100000000FD0000#64 = .ok (.read16Relative8 0xFD .none) ∧
    decode 0x49800000FED40000#64 = .ok (.read16Relative16 0xFED4 .es) ∧
    decode 0x5200000012340000#64 = .ok (.read16Offset8 0x1234 .cs) ∧
    decode 0x5A80000012340000#64 = .ok (.read16Offset16 0x1234 .ss) ∧
    decode 0x6300000000070000#64 = .ok (.read16Register8 .dl .ds) ∧
    decode 0x4380000000060000#64 = .ok (.read16Register16 (.reg .si) .none) ∧
    decode 0x5480000012340000#64 = .ok (.read16NearAddress 0x1234 .cs) ∧
    decode 0x5D00123456780000#64 = .ok (.read16FarAddress 0x1234 0x5678 .ss) ∧
    decode 0x6580000000000000#64 = .ok (.read16NoOperand .ds) ∧
    decode 0x4600000000000000#64 = .ok (.read16InvalidOperand .none) := by
  decide

/-- Words of `read16` from 30_encoding.md R65 to R74. -/
theorem test_decode_read16_modes_plain :
    decode 0x4C00000000000000#64 = .ok (.read16BxSi .es) ∧
    decode 0x5400000100000000#64 = .ok (.read16BxDi .cs) ∧
    decode 0x5C00000200000000#64 = .ok (.read16BpSi .ss) ∧
    decode 0x6400000300000000#64 = .ok (.read16BpDi .ds) ∧
    decode 0x4400000400000000#64 = .ok (.read16Si .none) ∧
    decode 0x4C00000500000000#64 = .ok (.read16Di .es) ∧
    decode 0x5400000600000000#64 = .ok (.read16Bp .cs) ∧
    decode 0x5C00000700000000#64 = .ok (.read16Bx .ss) ∧
    decode 0x4C00001900000000#64 = .ok (.read16RegisterMode .es) := by
  decide

/-- Words of `read16` from 30_encoding.md R65 to R74. -/
theorem test_decode_read16_modes_disp8 :
    decode 0x6400000800FC0000#64 = .ok (.read16BxSiDisp8 0xFC .ds) ∧
    decode 0x4400000900FC0000#64 = .ok (.read16BxDiDisp8 0xFC .none) ∧
    decode 0x4C00000A00FC0000#64 = .ok (.read16BpSiDisp8 0xFC .es) ∧
    decode 0x5400000B00FC0000#64 = .ok (.read16BpDiDisp8 0xFC .cs) ∧
    decode 0x5C00000C00FC0000#64 = .ok (.read16SiDisp8 0xFC .ss) ∧
    decode 0x6400000D00FC0000#64 = .ok (.read16DiDisp8 0xFC .ds) ∧
    decode 0x4400000E00FC0000#64 = .ok (.read16BpDisp8 0xFC .none) ∧
    decode 0x4C00000F00FC0000#64 = .ok (.read16BxDisp8 0xFC .es) := by
  decide

/-- Words of `read16` from 30_encoding.md R65 to R74. -/
theorem test_decode_read16_modes_disp16 :
    decode 0x5400001080010000#64 = .ok (.read16BxSiDisp16 0x8001 .cs) ∧
    decode 0x5C00001180010000#64 = .ok (.read16BxDiDisp16 0x8001 .ss) ∧
    decode 0x6400001280010000#64 = .ok (.read16BpSiDisp16 0x8001 .ds) ∧
    decode 0x4400001380010000#64 = .ok (.read16BpDiDisp16 0x8001 .none) ∧
    decode 0x4C00001480010000#64 = .ok (.read16SiDisp16 0x8001 .es) ∧
    decode 0x5400001580010000#64 = .ok (.read16DiDisp16 0x8001 .cs) ∧
    decode 0x5C00001680010000#64 = .ok (.read16BpDisp16 0x8001 .ss) ∧
    decode 0x6400001780010000#64 = .ok (.read16BxDisp16 0x8001 .ds) ∧
    decode 0x4400001812340000#64 = .ok (.read16Disp16 0x1234 .none) := by
  decide

/-- Words of `write8` from 30_encoding.md R65 to R74. -/
theorem test_decode_write8_kinds :
    decode 0x88000000007F00A5#64 = .ok (.write8Immediate8 0x7F .es 0xA5) ∧
    decode 0x90800000123400A5#64 = .ok (.write8Immediate16 0x1234 .cs 0xA5) ∧
    decode 0x9900000000FD00A5#64 = .ok (.write8Relative8 0xFD .ss 0xA5) ∧
    decode 0xA1800000FED400A5#64 = .ok (.write8Relative16 0xFED4 .ds 0xA5) ∧
    decode 0x82000000123400A5#64 = .ok (.write8Offset8 0x1234 .none 0xA5) ∧
    decode 0x8A800000123400A5#64 = .ok (.write8Offset16 0x1234 .es 0xA5) ∧
    decode 0x93000000000700A5#64 = .ok (.write8Register8 .dl .cs 0xA5) ∧
    decode 0x9B800000000600A5#64 = .ok (.write8Register16 (.reg .si) .ss 0xA5) ∧
    decode 0x84800000123400A5#64 = .ok (.write8NearAddress 0x1234 .none 0xA5) ∧
    decode 0x8D001234567800A5#64 = .ok (.write8FarAddress 0x1234 0x5678 .es 0xA5) ∧
    decode 0x95800000000000A5#64 = .ok (.write8NoOperand .cs 0xA5) ∧
    decode 0x9E000000000000A5#64 = .ok (.write8InvalidOperand .ss 0xA5) := by
  decide

/-- Words of `write8` from 30_encoding.md R65 to R74. -/
theorem test_decode_write8_modes_plain :
    decode 0xA4000000000000A5#64 = .ok (.write8BxSi .ds 0xA5) ∧
    decode 0x84000001000000A5#64 = .ok (.write8BxDi .none 0xA5) ∧
    decode 0x8C000002000000A5#64 = .ok (.write8BpSi .es 0xA5) ∧
    decode 0x94000003000000A5#64 = .ok (.write8BpDi .cs 0xA5) ∧
    decode 0x9C000004000000A5#64 = .ok (.write8Si .ss 0xA5) ∧
    decode 0xA4000005000000A5#64 = .ok (.write8Di .ds 0xA5) ∧
    decode 0x84000006000000A5#64 = .ok (.write8Bp .none 0xA5) ∧
    decode 0x8C000007000000A5#64 = .ok (.write8Bx .es 0xA5) ∧
    decode 0xA4000019000000A5#64 = .ok (.write8RegisterMode .ds 0xA5) := by
  decide

/-- Words of `write8` from 30_encoding.md R65 to R74. -/
theorem test_decode_write8_modes_disp8 :
    decode 0x9400000800FC00A5#64 = .ok (.write8BxSiDisp8 0xFC .cs 0xA5) ∧
    decode 0x9C00000900FC00A5#64 = .ok (.write8BxDiDisp8 0xFC .ss 0xA5) ∧
    decode 0xA400000A00FC00A5#64 = .ok (.write8BpSiDisp8 0xFC .ds 0xA5) ∧
    decode 0x8400000B00FC00A5#64 = .ok (.write8BpDiDisp8 0xFC .none 0xA5) ∧
    decode 0x8C00000C00FC00A5#64 = .ok (.write8SiDisp8 0xFC .es 0xA5) ∧
    decode 0x9400000D00FC00A5#64 = .ok (.write8DiDisp8 0xFC .cs 0xA5) ∧
    decode 0x9C00000E00FC00A5#64 = .ok (.write8BpDisp8 0xFC .ss 0xA5) ∧
    decode 0xA400000F00FC00A5#64 = .ok (.write8BxDisp8 0xFC .ds 0xA5) := by
  decide

/-- Words of `write8` from 30_encoding.md R65 to R74. -/
theorem test_decode_write8_modes_disp16 :
    decode 0x84000010800100A5#64 = .ok (.write8BxSiDisp16 0x8001 .none 0xA5) ∧
    decode 0x8C000011800100A5#64 = .ok (.write8BxDiDisp16 0x8001 .es 0xA5) ∧
    decode 0x94000012800100A5#64 = .ok (.write8BpSiDisp16 0x8001 .cs 0xA5) ∧
    decode 0x9C000013800100A5#64 = .ok (.write8BpDiDisp16 0x8001 .ss 0xA5) ∧
    decode 0xA4000014800100A5#64 = .ok (.write8SiDisp16 0x8001 .ds 0xA5) ∧
    decode 0x84000015800100A5#64 = .ok (.write8DiDisp16 0x8001 .none 0xA5) ∧
    decode 0x8C000016800100A5#64 = .ok (.write8BpDisp16 0x8001 .es 0xA5) ∧
    decode 0x94000017800100A5#64 = .ok (.write8BxDisp16 0x8001 .cs 0xA5) ∧
    decode 0x9C000018123400A5#64 = .ok (.write8Disp16 0x1234 .ss 0xA5) := by
  decide

/-- Words of `write16` from 30_encoding.md R65 to R74. -/
theorem test_decode_write16_kinds :
    decode 0xE0000000007FBEEF#64 = .ok (.write16Immediate8 0x7F .ds 0xBEEF) ∧
    decode 0xC08000001234BEEF#64 = .ok (.write16Immediate16 0x1234 .none 0xBEEF) ∧
    decode 0xC900000000FDBEEF#64 = .ok (.write16Relative8 0xFD .es 0xBEEF) ∧
    decode 0xD1800000FED4BEEF#64 = .ok (.write16Relative16 0xFED4 .cs 0xBEEF) ∧
    decode 0xDA0000001234BEEF#64 = .ok (.write16Offset8 0x1234 .ss 0xBEEF) ∧
    decode 0xE28000001234BEEF#64 = .ok (.write16Offset16 0x1234 .ds 0xBEEF) ∧
    decode 0xC30000000007BEEF#64 = .ok (.write16Register8 .dl .none 0xBEEF) ∧
    decode 0xCB8000000006BEEF#64 = .ok (.write16Register16 (.reg .si) .es 0xBEEF) ∧
    decode 0xDC8000001234BEEF#64 = .ok (.write16NearAddress 0x1234 .ss 0xBEEF) ∧
    decode 0xE50012345678BEEF#64 = .ok (.write16FarAddress 0x1234 0x5678 .ds 0xBEEF) ∧
    decode 0xC58000000000BEEF#64 = .ok (.write16NoOperand .none 0xBEEF) ∧
    decode 0xCE0000000000BEEF#64 = .ok (.write16InvalidOperand .es 0xBEEF) := by
  decide

/-- Words of `write16` from 30_encoding.md R65 to R74. -/
theorem test_decode_write16_modes_plain :
    decode 0xD40000000000BEEF#64 = .ok (.write16BxSi .cs 0xBEEF) ∧
    decode 0xDC0000010000BEEF#64 = .ok (.write16BxDi .ss 0xBEEF) ∧
    decode 0xE40000020000BEEF#64 = .ok (.write16BpSi .ds 0xBEEF) ∧
    decode 0xC40000030000BEEF#64 = .ok (.write16BpDi .none 0xBEEF) ∧
    decode 0xCC0000040000BEEF#64 = .ok (.write16Si .es 0xBEEF) ∧
    decode 0xD40000050000BEEF#64 = .ok (.write16Di .cs 0xBEEF) ∧
    decode 0xDC0000060000BEEF#64 = .ok (.write16Bp .ss 0xBEEF) ∧
    decode 0xE40000070000BEEF#64 = .ok (.write16Bx .ds 0xBEEF) ∧
    decode 0xD40000190000BEEF#64 = .ok (.write16RegisterMode .cs 0xBEEF) := by
  decide

/-- Words of `write16` from 30_encoding.md R65 to R74. -/
theorem test_decode_write16_modes_disp8 :
    decode 0xC400000800FCBEEF#64 = .ok (.write16BxSiDisp8 0xFC .none 0xBEEF) ∧
    decode 0xCC00000900FCBEEF#64 = .ok (.write16BxDiDisp8 0xFC .es 0xBEEF) ∧
    decode 0xD400000A00FCBEEF#64 = .ok (.write16BpSiDisp8 0xFC .cs 0xBEEF) ∧
    decode 0xDC00000B00FCBEEF#64 = .ok (.write16BpDiDisp8 0xFC .ss 0xBEEF) ∧
    decode 0xE400000C00FCBEEF#64 = .ok (.write16SiDisp8 0xFC .ds 0xBEEF) ∧
    decode 0xC400000D00FCBEEF#64 = .ok (.write16DiDisp8 0xFC .none 0xBEEF) ∧
    decode 0xCC00000E00FCBEEF#64 = .ok (.write16BpDisp8 0xFC .es 0xBEEF) ∧
    decode 0xD400000F00FCBEEF#64 = .ok (.write16BxDisp8 0xFC .cs 0xBEEF) := by
  decide

/-- Words of `write16` from 30_encoding.md R65 to R74. -/
theorem test_decode_write16_modes_disp16 :
    decode 0xDC0000108001BEEF#64 = .ok (.write16BxSiDisp16 0x8001 .ss 0xBEEF) ∧
    decode 0xE40000118001BEEF#64 = .ok (.write16BxDiDisp16 0x8001 .ds 0xBEEF) ∧
    decode 0xC40000128001BEEF#64 = .ok (.write16BpSiDisp16 0x8001 .none 0xBEEF) ∧
    decode 0xCC0000138001BEEF#64 = .ok (.write16BpDiDisp16 0x8001 .es 0xBEEF) ∧
    decode 0xD40000148001BEEF#64 = .ok (.write16SiDisp16 0x8001 .cs 0xBEEF) ∧
    decode 0xDC0000158001BEEF#64 = .ok (.write16DiDisp16 0x8001 .ss 0xBEEF) ∧
    decode 0xE40000168001BEEF#64 = .ok (.write16BpDisp16 0x8001 .ds 0xBEEF) ∧
    decode 0xC40000178001BEEF#64 = .ok (.write16BxDisp16 0x8001 .none 0xBEEF) ∧
    decode 0xCC0000181234BEEF#64 = .ok (.write16Disp16 0x1234 .es 0xBEEF) := by
  decide

/-- The eight codes of 30_encoding.md R70. -/
theorem test_decode_register8_codes :
    decode 0x0300000000000000#64 = .ok (.read8Register8 .ah .none) ∧
    decode 0x0300000000010000#64 = .ok (.read8Register8 .al .none) ∧
    decode 0x0300000000020000#64 = .ok (.read8Register8 .bh .none) ∧
    decode 0x0300000000030000#64 = .ok (.read8Register8 .bl .none) ∧
    decode 0x0300000000040000#64 = .ok (.read8Register8 .ch .none) ∧
    decode 0x0300000000050000#64 = .ok (.read8Register8 .cl .none) ∧
    decode 0x0300000000060000#64 = .ok (.read8Register8 .dh .none) ∧
    decode 0x0300000000070000#64 = .ok (.read8Register8 .dl .none) := by
  decide

/-- The twelve codes of 30_encoding.md R71. -/
theorem test_decode_register16_codes :
    decode 0x4380000000000000#64 = .ok (.read16Register16 (.reg .ax) .none) ∧
    decode 0x4380000000010000#64 = .ok (.read16Register16 (.reg .bx) .none) ∧
    decode 0x4380000000020000#64 = .ok (.read16Register16 (.reg .cx) .none) ∧
    decode 0x4380000000030000#64 = .ok (.read16Register16 (.reg .dx) .none) ∧
    decode 0x4380000000040000#64 = .ok (.read16Register16 (.reg .sp) .none) ∧
    decode 0x4380000000050000#64 = .ok (.read16Register16 (.reg .bp) .none) ∧
    decode 0x4380000000060000#64 = .ok (.read16Register16 (.reg .si) .none) ∧
    decode 0x4380000000070000#64 = .ok (.read16Register16 (.reg .di) .none) ∧
    decode 0x4380000000080000#64 = .ok (.read16Register16 (.reg .cs) .none) ∧
    decode 0x4380000000090000#64 = .ok (.read16Register16 (.reg .ds) .none) ∧
    decode 0x43800000000A0000#64 = .ok (.read16Register16 (.reg .es) .none) ∧
    decode 0x43800000000B0000#64 = .ok (.read16Register16 (.reg .ss) .none) := by
  decide

/-- Codes 12 to 15 decode to unrecognised identities (30_encoding.md R71). -/
theorem test_decode_bad_register16 :
    decode 0x43800000000C0000#64 = .ok (.read16Register16 (.bad 12) .none) ∧
    decode 0x43800000000D0000#64 = .ok (.read16Register16 (.bad 13) .none) ∧
    decode 0x43800000000E0000#64 = .ok (.read16Register16 (.bad 14) .none) ∧
    decode 0x43800000000F0000#64 = .ok (.read16Register16 (.bad 15) .none) := by
  decide

/-- Malformed words are rejected by name (95_test_vectors.md 3.10; 30_encoding.md R75). -/
theorem test_decode_malformed :
    decode 0x2B00000000010000#64 = .malformed .overrideReserved ∧
    decode 0x0680000000000000#64 = .malformed .kindReserved ∧
    decode 0x0301000000010000#64 = .malformed .mbzNonzero ∧
    decode 0x0300000000080000#64 = .malformed .payloadNonzero ∧
    decode 0x04000000001A0000#64 = .malformed .payloadNonzero ∧
    decode 0x0400001A00000000#64 = .malformed .modeReserved ∧
    decode 0x0300000000010001#64 = .malformed .wdataNonzero := by
  decide

/-- The opcode table's numbering is the word itself. -/
theorem test_decode_table_word :
    decodeTableWord 64 0x4400000E00040000 = some (.read16BpDisp8 4 .none) ∧ decodeTableWord 64 0x0680000000000000 = none ∧
    decodeTableWord 65 0 = none := by
  decide

/-- `withFetchWord` makes the word the next request after reset. -/
theorem test_fetch_word :
    (nextState (step (State.reset.withFetchWord 64 0x00000000007F0000))).bind State.response = some (okAnswer 0x7F none) := by
  decide

/-! ## Address calculation and requests: 95_test_vectors.md -/

/-- 95_test_vectors.md 3.4: one vector per operand kind of `read8`. -/
theorem test_read8_vectors :
    answerTo 0x00000000007F0000 s0 = some (okAnswer 0x7F none) ∧
    answerTo 0x0080000012340000 s0 = some (naAnswer) ∧
    answerTo 0x0100000000FD0000 s0 = some (okAnswer 0xFD none) ∧
    answerTo 0x01800000FED40000 s0 = some (naAnswer) ∧
    answerTo 0x0200000012340000 s0 = some (naAnswer) ∧
    answerTo 0x0280000012340000 s0 = some (naAnswer) ∧
    answerTo 0x0300000000070000 s0 = some (okAnswer 0x66 none) ∧
    answerTo 0x0380000000060000 s0 = some (naAnswer) ∧
    answerTo 0x0400000000000000 s0 = some (okAnswer 0x9A (some Config.refCost)) ∧
    answerTo 0x0480000012340000 s0 = some (naAnswer) ∧
    answerTo 0x0500123456780000 s0 = some (naAnswer) ∧
    answerTo 0x0580000000000000 s0 = some (naAnswer) ∧
    answerTo 0x0600000000000000 s0 = some (naAnswer) ∧
    answerTo 0x03800000000D0000 s0 = some (naAnswer) ∧
    answerTo 0x08000000007F0000 s0 = some (okAnswer 0x7F none) ∧
    answerTo 0x0400001812340000 s0 = some (okAnswer 0x34 (some Config.refCost)) := by
  decide

/-- 95_test_vectors.md 3.5: one vector per operand kind of `read16`. -/
theorem test_read16_vectors :
    answerTo 0x40000000007F0000 s0 = some (naAnswer) ∧
    answerTo 0x4080000012340000 s0 = some (okAnswer 0x1234 none) ∧
    answerTo 0x4100000000FD0000 s0 = some (naAnswer) ∧
    answerTo 0x41800000FED40000 s0 = some (okAnswer 0xFED4 none) ∧
    answerTo 0x4200000012340000 s0 = some (naAnswer) ∧
    answerTo 0x4280000012340000 s0 = some (naAnswer) ∧
    answerTo 0x4300000000070000 s0 = some (naAnswer) ∧
    answerTo 0x4380000000060000 s0 = some (okAnswer 0x0050 none) ∧
    answerTo 0x4400000000000000 s0 = some (okAnswer 0xBC9A (some Config.refCost)) ∧
    answerTo 0x4480000012340000 s0 = some (naAnswer) ∧
    answerTo 0x4500123456780000 s0 = some (naAnswer) ∧
    answerTo 0x4580000000000000 s0 = some (naAnswer) ∧
    answerTo 0x4600000000000000 s0 = some (naAnswer) ∧
    answerTo 0x4400000E00040000 s0 = some (okAnswer 0x5678 (some Config.refCost)) ∧
    answerTo 0x5380000000060000 s0 = some (okAnswer 0x0050 none) := by
  decide

/-- 95_test_vectors.md 3.6: one vector per operand kind of `write8`. -/
theorem test_write8_vectors :
    answerTo 0x80000000007F00A5 s0 = some (naAnswer) ∧
    answerTo 0x80800000123400A5 s0 = some (naAnswer) ∧
    answerTo 0x8100000000FD00A5 s0 = some (naAnswer) ∧
    answerTo 0x81800000FED400A5 s0 = some (naAnswer) ∧
    answerTo 0x82000000123400A5 s0 = some (naAnswer) ∧
    answerTo 0x82800000123400A5 s0 = some (naAnswer) ∧
    answerTo 0x83000000000700A5 s0 = some (okAnswer 0 none) ∧
    answerTo 0x83800000000600A5 s0 = some (naAnswer) ∧
    answerTo 0x84000000000000A5 s0 = some (okAnswer 0 (some Config.refCost)) ∧
    answerTo 0x84800000123400A5 s0 = some (naAnswer) ∧
    answerTo 0x85001234567800A5 s0 = some (naAnswer) ∧
    answerTo 0x85800000000000A5 s0 = some (naAnswer) ∧
    answerTo 0x86000000000000A5 s0 = some (naAnswer) ∧
    answerTo 0x83800000000D00A5 s0 = some (naAnswer) ∧
    answerTo 0x9B000000000200A5 s0 = some (okAnswer 0 none) ∧
    answerTo 0x8C000005000000A5 s0 = some (okAnswer 0 (some Config.refCost)) := by
  decide

/-- 95_test_vectors.md 3.7: one vector per operand kind of `write16`. -/
theorem test_write16_vectors :
    answerTo 0xC0000000007FBEEF s0 = some (naAnswer) ∧
    answerTo 0xC08000001234BEEF s0 = some (naAnswer) ∧
    answerTo 0xC100000000FDBEEF s0 = some (naAnswer) ∧
    answerTo 0xC1800000FED4BEEF s0 = some (naAnswer) ∧
    answerTo 0xC20000001234BEEF s0 = some (naAnswer) ∧
    answerTo 0xC28000001234BEEF s0 = some (naAnswer) ∧
    answerTo 0xC30000000007BEEF s0 = some (naAnswer) ∧
    answerTo 0xC38000000006BEEF s0 = some (okAnswer 0 none) ∧
    answerTo 0xC40000000000BEEF s0 = some (okAnswer 0 (some Config.refCost)) ∧
    answerTo 0xC48000001234BEEF s0 = some (naAnswer) ∧
    answerTo 0xC50012345678BEEF s0 = some (naAnswer) ∧
    answerTo 0xC58000000000BEEF s0 = some (naAnswer) ∧
    answerTo 0xC60000000000BEEF s0 = some (naAnswer) ∧
    answerTo 0xC40000030000BEEF s0 = some (okAnswer 0 (some Config.refCost)) ∧
    answerTo 0xE38000000000BEEF s0 = some (okAnswer 0 none) := by
  decide

/-- 95_test_vectors.md 3.9: the fatal outcomes. -/
theorem test_fatal_vectors :
    answerTo 0x0400001900000000 s0 = some (fatalAnswer .registerModeEa 0x0400001900000000) ∧
    answerTo 0x4C00001900000000 s0 = some (fatalAnswer .registerModeEa 0x4C00001900000000) ∧
    answerTo 0x84000019000000A5 s0 = some (fatalAnswer .registerModeEa 0x84000019000000A5) ∧
    answerTo 0xC40000190000BEEF s0 = some (fatalAnswer .registerModeEa 0xC40000190000BEEF) ∧
    answerTo 0x43800000000C0000 s0 = some (fatalAnswer .badRegister16 0x43800000000C0000) ∧
    answerTo 0x43800000000F0000 s0 = some (fatalAnswer .badRegister16 0x43800000000F0000) ∧
    answerTo 0xC3800000000CBEEF s0 = some (fatalAnswer .badRegister16 0xC3800000000CBEEF) ∧
    answerTo 0xC3800000000EBEEF s0 = some (fatalAnswer .badRegister16 0xC3800000000EBEEF) := by
  decide

/-- 95_test_vectors.md 3.10: malformed words. -/
theorem test_malformed_vectors :
    answerTo 0x2B00000000010000 s0 = some (fatalAnswer .malformedRequest 0x2B00000000010000) ∧
    answerTo 0x3B00000000000000 s0 = some (fatalAnswer .malformedRequest 0x3B00000000000000) ∧
    answerTo 0x0680000000000000 s0 = some (fatalAnswer .malformedRequest 0x0680000000000000) ∧
    answerTo 0x0780000000000000 s0 = some (fatalAnswer .malformedRequest 0x0780000000000000) ∧
    answerTo 0x0301000000010000 s0 = some (fatalAnswer .malformedRequest 0x0301000000010000) ∧
    answerTo 0x0340000000000000 s0 = some (fatalAnswer .malformedRequest 0x0340000000000000) ∧
    answerTo 0x0000000001000000 s0 = some (fatalAnswer .malformedRequest 0x0000000001000000) ∧
    answerTo 0x0300000000080000 s0 = some (fatalAnswer .malformedRequest 0x0300000000080000) ∧
    answerTo 0x0380000000100000 s0 = some (fatalAnswer .malformedRequest 0x0380000000100000) ∧
    answerTo 0x04000000001A0000 s0 = some (fatalAnswer .malformedRequest 0x04000000001A0000) ∧
    answerTo 0x04000000001F0000 s0 = some (fatalAnswer .malformedRequest 0x04000000001F0000) ∧
    answerTo 0x0400000000010000 s0 = some (fatalAnswer .malformedRequest 0x0400000000010000) ∧
    answerTo 0x0400000E01040000 s0 = some (fatalAnswer .malformedRequest 0x0400000E01040000) ∧
    answerTo 0x0400001900010000 s0 = some (fatalAnswer .malformedRequest 0x0400001900010000) ∧
    answerTo 0x0400002000000000 s0 = some (fatalAnswer .malformedRequest 0x0400002000000000) ∧
    answerTo 0x0580000000010000 s0 = some (fatalAnswer .malformedRequest 0x0580000000010000) ∧
    answerTo 0x0080000100000000 s0 = some (fatalAnswer .malformedRequest 0x0080000100000000) ∧
    answerTo 0x0300000000010001 s0 = some (fatalAnswer .malformedRequest 0x0300000000010001) ∧
    answerTo 0x4380000000008000 s0 = some (fatalAnswer .malformedRequest 0x4380000000008000) ∧
    answerTo 0x8300000000010100 s0 = some (fatalAnswer .malformedRequest 0x8300000000010100) := by
  decide

/-- 95_test_vectors.md 3.6: all eight halves written. -/
theorem test_write8_halves :
    regsAfterStep 0x83000000000000A5 s0 = some { regsS0 with ax := 0xA522 } ∧
    regsAfterStep 0x83000000000100A5 s0 = some { regsS0 with ax := 0x11A5 } ∧
    regsAfterStep 0x83000000000200A5 s0 = some { regsS0 with bx := 0xA500 } ∧
    regsAfterStep 0x83000000000300A5 s0 = some { regsS0 with bx := 0x02A5 } ∧
    regsAfterStep 0x83000000000400A5 s0 = some { regsS0 with cx := 0xA544 } ∧
    regsAfterStep 0x83000000000500A5 s0 = some { regsS0 with cx := 0x33A5 } ∧
    regsAfterStep 0x83000000000600A5 s0 = some { regsS0 with dx := 0xA566 } ∧
    regsAfterStep 0x83000000000700A5 s0 = some { regsS0 with dx := 0x55A5 } := by
  decide

/-- 95_test_vectors.md 3.7: all twelve registers written. -/
theorem test_write16_registers :
    regsAfterStep 0xC38000000000BEEF s0 = some { regsS0 with ax := 0xBEEF } ∧
    regsAfterStep 0xC38000000001BEEF s0 = some { regsS0 with bx := 0xBEEF } ∧
    regsAfterStep 0xC38000000002BEEF s0 = some { regsS0 with cx := 0xBEEF } ∧
    regsAfterStep 0xC38000000003BEEF s0 = some { regsS0 with dx := 0xBEEF } ∧
    regsAfterStep 0xC38000000004BEEF s0 = some { regsS0 with sp := 0xBEEF } ∧
    regsAfterStep 0xC38000000005BEEF s0 = some { regsS0 with bp := 0xBEEF } ∧
    regsAfterStep 0xC38000000006BEEF s0 = some { regsS0 with si := 0xBEEF } ∧
    regsAfterStep 0xC38000000007BEEF s0 = some { regsS0 with di := 0xBEEF } ∧
    regsAfterStep 0xC38000000008BEEF s0 = some { regsS0 with cs := 0xBEEF } ∧
    regsAfterStep 0xC38000000009BEEF s0 = some { regsS0 with ds := 0xBEEF } ∧
    regsAfterStep 0xC3800000000ABEEF s0 = some { regsS0 with es := 0xBEEF } ∧
    regsAfterStep 0xC3800000000BBEEF s0 = some { regsS0 with ss := 0xBEEF } := by
  decide

/-- 95_test_vectors.md 3.2: segment, offset and linear address of these memory modes at S0. -/
theorem test_effective_addresses_plain :
    addressOf (.plain .bxSi) .none regsS0 = some (0x1000, 0x0250, 0x10250) ∧
    addressOf (.plain .bxDi) .none regsS0 = some (0x1000, 0x01F0, 0x101F0) ∧
    addressOf (.plain .bpSi) .none regsS0 = some (0x2000, 0x1050, 0x21050) ∧
    addressOf (.plain .bpDi) .none regsS0 = some (0x2000, 0x0FF0, 0x20FF0) ∧
    addressOf (.plain .si) .none regsS0 = some (0x1000, 0x0050, 0x10050) ∧
    addressOf (.plain .di) .none regsS0 = some (0x1000, 0xFFF0, 0x1FFF0) ∧
    addressOf (.plain .bp) .none regsS0 = some (0x2000, 0x1000, 0x21000) ∧
    addressOf (.plain .bx) .none regsS0 = some (0x1000, 0x0200, 0x10200) := by
  decide

/-- 95_test_vectors.md 3.2: segment, offset and linear address of these memory modes at S0. -/
theorem test_effective_addresses_disp8 :
    addressOf (.disp8 .bxSi 0x04) .none regsS0 = some (0x1000, 0x0254, 0x10254) ∧
    addressOf (.disp8 .bxDi 0xFC) .none regsS0 = some (0x1000, 0x01EC, 0x101EC) ∧
    addressOf (.disp8 .bpSi 0x7F) .none regsS0 = some (0x2000, 0x10CF, 0x210CF) ∧
    addressOf (.disp8 .bpDi 0x80) .none regsS0 = some (0x2000, 0x0F70, 0x20F70) ∧
    addressOf (.disp8 .si 0xFF) .none regsS0 = some (0x1000, 0x004F, 0x1004F) ∧
    addressOf (.disp8 .di 0x10) .none regsS0 = some (0x1000, 0x0000, 0x10000) ∧
    addressOf (.disp8 .bp 0x04) .none regsS0 = some (0x2000, 0x1004, 0x21004) ∧
    addressOf (.disp8 .bx 0xFE) .none regsS0 = some (0x1000, 0x01FE, 0x101FE) := by
  decide

/-- 95_test_vectors.md 3.2: segment, offset and linear address of these memory modes at S0. -/
theorem test_effective_addresses_disp16_and_direct :
    addressOf (.disp16 .bxSi 0x1234) .none regsS0 = some (0x1000, 0x1484, 0x11484) ∧
    addressOf (.disp16 .bxDi 0x0010) .none regsS0 = some (0x1000, 0x0200, 0x10200) ∧
    addressOf (.disp16 .bpSi 0xF000) .none regsS0 = some (0x2000, 0x0050, 0x20050) ∧
    addressOf (.disp16 .bpDi 0x8000) .none regsS0 = some (0x2000, 0x8FF0, 0x28FF0) ∧
    addressOf (.disp16 .si 0xFFB0) .none regsS0 = some (0x1000, 0x0000, 0x10000) ∧
    addressOf (.disp16 .di 0x0011) .none regsS0 = some (0x1000, 0x0001, 0x10001) ∧
    addressOf (.disp16 .bp 0xF000) .none regsS0 = some (0x2000, 0x0000, 0x20000) ∧
    addressOf (.disp16 .bx 0xFE00) .none regsS0 = some (0x1000, 0x0000, 0x10000) ∧
    addressOf (.direct 0x1234) .none regsS0 = some (0x1000, 0x1234, 0x11234) := by
  decide

/-- 95_test_vectors.md 3.2: overrides. -/
theorem test_overrides_bxSi :
    addressOf (.plain .bxSi) .none regsS0 = some (0x1000, 0x0250, 0x10250) ∧
    addressOf (.plain .bxSi) .es regsS0 = some (0xB800, 0x0250, 0xB8250) ∧
    addressOf (.plain .bxSi) .cs regsS0 = some (0xF000, 0x0250, 0xF0250) ∧
    addressOf (.plain .bxSi) .ss regsS0 = some (0x2000, 0x0250, 0x20250) ∧
    addressOf (.plain .bxSi) .ds regsS0 = some (0x1000, 0x0250, 0x10250) := by
  decide

/-- 95_test_vectors.md 3.2: overrides. -/
theorem test_overrides_bpDisp8 :
    addressOf (.disp8 .bp 4) .none regsS0 = some (0x2000, 0x1004, 0x21004) ∧
    addressOf (.disp8 .bp 4) .es regsS0 = some (0xB800, 0x1004, 0xB9004) ∧
    addressOf (.disp8 .bp 4) .cs regsS0 = some (0xF000, 0x1004, 0xF1004) ∧
    addressOf (.disp8 .bp 4) .ss regsS0 = some (0x2000, 0x1004, 0x21004) ∧
    addressOf (.disp8 .bp 4) .ds regsS0 = some (0x1000, 0x1004, 0x11004) := by
  decide

/-- 95_test_vectors.md 3.2: offsets that wrap. -/
theorem test_offset_wraps :
    offsetOf (.disp8 .bx 0x01) { regsS0 with bx := 0xFFFF } = some 0x0000 ∧
    offsetOf (.disp16 .bx 0x0001) { regsS0 with bx := 0xFFFF } = some 0x0000 ∧
    offsetOf (.disp8 .bx 0xFF) { regsS0 with bx := 0x0000 } = some 0xFFFF ∧
    offsetOf (.disp8 .bx 0x80) { regsS0 with bx := 0x0000 } = some 0xFF80 ∧
    offsetOf (.disp8 .bx 0x7F) { regsS0 with bx := 0x0000 } = some 0x007F ∧
    offsetOf (.plain .bxSi) { regsS0 with bx := 0x8000, si := 0x8000 } = some 0x0000 ∧
    offsetOf (.disp16 .bxSi 0xFFFF) { regsS0 with bx := 0xFFFF, si := 0xFFFF } = some 0xFFFD ∧
    offsetOf (.plain .bpDi) { regsS0 with bp := 0xFFFF, di := 0x0001 } = some 0x0000 ∧
    offsetOf (.disp8 .bx 0xFC) { regsS0 with bx := 0x0003 } = some 0xFFFF ∧
    offsetOf (.disp16 .si 0xFFFF) { regsS0 with si := 0x1234 } = some 0x1233 ∧
    offsetOf (.disp8 .bx 0x80) { regsS0 with bx := 0x0080 } = some 0x0000 ∧
    offsetOf (.disp16 .bx 0x0080) { regsS0 with bx := 0x0080 } = some 0x0100 := by
  decide

/-- 95_test_vectors.md 3.3: linear addresses. -/
theorem test_linear_addresses :
    linearAddr 0x0000 0x0000 = 0x00000 ∧
    linearAddr 0x0000 0x0010 = 0x00010 ∧
    linearAddr 0xFFFF 0x0010 = 0x00000 ∧
    linearAddr 0x1234 0x5678 = 0x179B8 ∧
    linearAddr 0xFFFF 0x000F = 0xFFFFF ∧
    linearAddr 0xFFFF 0xFFFF = 0x0FFEF ∧
    linearAddr 0xF000 0xFFFF = 0xFFFFF ∧
    linearAddr 0xF001 0xFFEF = 0xFFFFF ∧
    linearAddr 0xF001 0xFFF0 = 0x00000 ∧
    linearAddr 0x1000 0x0000 = 0x10000 ∧
    linearAddr 0x0FFF 0x0010 = 0x10000 ∧
    linearAddr 0x0000 0xFFFF = 0x0FFFF ∧
    linearAddr 0xB800 0x0F9E = 0xB8F9E ∧
    linearAddr 0x8000 0x8000 = 0x88000 := by
  decide

/-- 95_test_vectors.md X8, 3.6 and 3.7: what a store leaves in memory, `0xBEEF` low byte first. -/
theorem test_stores :
    memAfterStep 0x84000000000000A5 { s0 with bus := .ref ⟨[], []⟩ } = some [(0x10250, 0xA5)] ∧
    memAfterStep 0x8C000005000000A5 { s0 with bus := .ref ⟨[], []⟩ } = some [(0xC7FF0, 0xA5)] ∧
    memAfterStep 0xC40000000000BEEF { s0 with bus := .ref ⟨[], []⟩ } = some [(0x10250, 0xEF), (0x10251, 0xBE)] ∧
    memAfterStep 0xC40000030000BEEF { s0 with bus := .ref ⟨[], []⟩ } = some [(0x20FF0, 0xEF), (0x20FF1, 0xBE)] := by
  decide

/-- 95_test_vectors.md 3.8: a word at the edges. -/
theorem test_word_at_the_edges :
    memAfterStep 0xC40000070000BEEF { s0 with bus := .ref ⟨[], []⟩, regs := { regsS0 with bx := 0xFFFF } } =
      some [(0x1FFFF, 0xEF), (0x20000, 0xBE)] ∧
    memAfterStep 0xC40000070000BEEF { s0 with bus := .ref ⟨[], []⟩, regs := { regsS0 with ds := 0xF000, bx := 0xFFFF } } =
      some [(0x00000, 0xBE), (0xFFFFF, 0xEF)] ∧
    memAfterStep 0xC40000180010BEEF { s0 with bus := .ref ⟨[], []⟩, regs := { regsS0 with ds := 0xFFFF } } =
      some [(0x00000, 0xEF), (0x00001, 0xBE)] := by
  decide

/-- Writing what an unlisted byte reads as removes the entry (20_memory.md R50: every byte not listed is `0x00`). -/
theorem test_store_zero :
    memAfterStep 0x8400000000000000 { s0 with bus := .ref ⟨[(0x10250, 0x9A)], []⟩ } = some [] := by
  decide

/-- 95_test_vectors.md 3.11: bus errors, and a word that straddles into the unmapped set. -/
theorem test_bus_errors :
    answerTo 0x0C00000000000000 sUnmapped = some busErrorAnswer ∧
    answerTo 0xCC0000000000BEEF sUnmapped = some busErrorAnswer ∧
    memAfterStep 0xCC0000000000BEEF sUnmapped = some mem34 ∧
    answerTo 0x0400000000000000 sUnmapped = some (okAnswer 0x9A (some Config.refCost)) ∧
    answerTo 0x4400000700000000 { sUnmapped with regs := { regsS0 with ds := 0x9000, bx := 0xFFFF } } =
      some busErrorAnswer := by
  decide

/-- 95_test_vectors.md 3.9: a fatal sets the latch and the record; the registers stay. -/
theorem test_fatal_state :
    haltAfterStep 0x0400001900000000 s0 = some (true, 1, 0x0400001900000000) ∧
    haltAfterStep 0xC3800000000EBEEF s0 = some (true, 2, 0xC3800000000EBEEF) ∧
    haltAfterStep 0x0780000000000000 s0 = some (true, 3, 0x0780000000000000) ∧
    regsAfterStep 0xC3800000000EBEEF s0 = some regsS0 := by
  decide

/-- 95_test_vectors.md P4: nothing runs after a fatal. -/
theorem test_halted_has_no_step : nextState (step (placeRequest 0xC380000000020002 sHalted)) = none := by
  decide

/-! ## Witnesses: for every obligation with hypotheses, arguments that meet them -/

theorem witness_DecodeOfEncodeIsTheInstruction :
    (Instr.read16Register16 (.bad 12) .none).wf = true ∧ (Instr.write16Register16 (.bad 15) .ds 0xFFFF).wf = true := by
  decide

theorem witness_EncodeOfDecodeIsTheWord : decode 0x4400000E00040000 = .ok (.read16BpDisp8 4 .none) := by decide

theorem witness_StepRunsTheDecodedRequest :
    (placeRequest 0x4400000E00040000 s0).inputs = .request 0x4400000E00040000 :: [] ∧
      decode 0x4400000E00040000 = .ok (.read16BpDisp8 4 .none) := by
  decide

theorem witness_MalformedWordIsFatal :
    (placeRequest 0x2B00000000010000 s0).halted = false ∧
      (placeRequest 0x2B00000000010000 s0).inputs = .request 0x2B00000000010000 :: [] ∧
      decode 0x2B00000000010000 = .malformed .overrideReserved := by
  decide

/-- One mode of each side of the `if`. -/
theorem witness_DefaultSegmentOfEachMode :
    AddrMode.plain .bpDi ≠ .registerMode ∧ Spec.bpBased (.plain .bpDi) = true ∧ AddrMode.direct 0 ≠ .registerMode ∧
      Spec.bpBased (.direct 0) = false := by
  decide

/-- A sum that wraps, `0xFFFF + 1`, a negative one, `0 - 1`, and one that does neither. -/
theorem witness_OffsetWrapsModulo64K :
    calcEa (.disp8 .bx 1) .none { regsS0 with bx := 0xFFFF } = some (0x1000, 0x0000) ∧
    calcEa (.disp8 .bx 0xFF) .none { regsS0 with bx := 0x0000 } = some (0x1000, 0xFFFF) ∧
    calcEa (.direct 0x1234) .es regsS0 = some (0xB800, 0x1234) := by
  decide

theorem witness_OffsetAndSegmentAreIndependent :
    Reg16.ss ∈ [Reg16.cs, .ds, .es, .ss] ∧ Reg16.bp ∉ [Reg16.cs, .ds, .es, .ss] := by
  decide

theorem witness_AddressesIgnoreAxCxDxSp : Reg16.sp ∈ [Reg16.ax, .cx, .dx, .sp] := by decide

/-- Both clauses at their boundary: the last sum that does not wrap and the first that does, and the largest. -/
theorem witness_TranslateWrapsAtOneMegabyte :
    (0xF001#16).toNat * 16 + (0xFFEF#16).toNat < 2 ^ 20 ∧ 2 ^ 20 ≤ (0xF001#16).toNat * 16 + (0xFFF0#16).toNat ∧
      2 ^ 20 ≤ (0xFFFF#16).toNat * 16 + (0xFFFF#16).toNat := by
  decide

theorem witness_TranslateAliases : 1 ≤ (0x1000#16).toNat ∧ (0xFFEF#16).toNat + 16 * 1 < 65536 := by decide

/-- A ready block on either kind of bus meets the hypothesis of every statement about one accepted request. -/
theorem witness_ready : s0.halted = false ∧ sPlatform.halted = false ∧ sUnmapped.halted = false := by decide

theorem witness_Read8ValueKinds : s0.halted = false := by decide

theorem witness_Read8NotApplicableKinds :
    s0.halted = false ∧ (.read8Offset16 0x1234 .es, 5, 0x1234) ∈ Spec.read8NotApplicable 0x1234 0x5678 .es := by
  decide

theorem witness_Read8Memory :
    s0.halted = false ∧ (.read8BpDisp8 0x80 .none, .disp8 .bp 0x80) ∈ Spec.read8Memory .none 0x80 0xFFFF := by
  decide

/-- The unrecognised identities at both ends of their range. -/
theorem witness_Read16ValueKinds : s0.halted = false ∧ 12 ≤ (12#4).toNat ∧ 12 ≤ (15#4).toNat := by decide

theorem witness_Read16NotApplicableKinds :
    s0.halted = false ∧ (.read16Register8 .ah .es, 6, 0) ∈ Spec.read16NotApplicable 1 0x1234 0x5678 .ah .es := by
  decide

theorem witness_Read16Memory :
    s0.halted = false ∧ (.read16Disp16 0xFFFF .cs, .direct 0xFFFF) ∈ Spec.read16Memory .cs 0x80 0xFFFF := by
  decide

theorem witness_Write8RegisterHalf : s0.halted = false := by decide

theorem witness_Write8NotApplicableKinds :
    s0.halted = false ∧ (.write8NoOperand .es 0xA5, 11, 0) ∈ Spec.write8NotApplicable 1 0x1234 0x5678 .es 0xA5 := by
  decide

theorem witness_Write8Memory :
    s0.halted = false ∧ (.write8BxSi .es 0xA5, .plain .bxSi) ∈ Spec.write8Memory .es 0x80 0xFFFF 0xA5 := by
  decide

theorem witness_Write16Register : s0.halted = false ∧ 12 ≤ (12#4).toNat ∧ 12 ≤ (15#4).toNat := by decide

theorem witness_Write16NotApplicableKinds :
    s0.halted = false ∧ (.write16Offset8 0x1234 .es 0xBEEF, 4, 0x1234) ∈ Spec.write16NotApplicable 1 0x1234 0x5678 .es 0xBEEF := by
  decide

theorem witness_Write16Memory :
    s0.halted = false ∧ (.write16BpDi .es 0xBEEF, .plain .bpDi) ∈ Spec.write16Memory .es 0x80 0xFFFF 0xBEEF := by
  decide

theorem witness_WidthMismatchedRegistersAreNotApplicable :
    s0.halted = false ∧ (.read8Register16 (.bad 13) .none, 0, 7, 13, 0) ∈ Spec.widthMismatches .ah (.bad 13) 0xA5 0xBEEF .none := by
  decide

theorem witness_RegisterModeHalts :
    s0.halted = false ∧ .write16RegisterMode .ds 0xBEEF ∈ Spec.registerModeForms .ds 0xA5 0xBEEF := by
  decide

theorem witness_BadRegister16Halts :
    s0.halted = false ∧ 12 ≤ (12#4).toNat ∧ 12 ≤ (15#4).toNat ∧
      .write16Register16 (.bad 15) .none 0xBEEF ∈ Spec.badRegisterForms 15 .none 0xBEEF := by
  decide

/-- A value read, a memory read, and a read that ends fatal. -/
theorem witness_ReadsChangeNoBlockState :
    (Instr.read8BxSi .none).request = .read8 (.addressingMode (.plain .bxSi)) .none ∧
    (∃ t, exec (.read8BxSi .none) s0 = .next t) ∧ (∃ t, exec (.read8BxSi .none) sPlatform = .next t) ∧
    (Instr.read16RegisterMode .none).request = .read16 (.addressingMode .registerMode) .none ∧
    (∃ t, exec (.read16RegisterMode .none) s0 = .next t) :=
  ⟨rfl, ⟨_, exec_ready rfl _⟩, ⟨_, exec_ready rfl _⟩, rfl, ⟨_, exec_ready rfl _⟩⟩

/-- Both clauses: a request without and one with a bus call. -/
theorem witness_OneBusCallPerMemoryRequest :
    (∃ t, exec (.write8RegisterMode .none 0xA5) s0 = .next t) ∧
    (∀ m, (Instr.write8RegisterMode .none 0xA5).request.operand = .addressingMode m → m = .registerMode) ∧
    (∃ t, exec (.write8Bx .none 0xA5) s0 = .next t) ∧
    (Instr.write8Bx .none 0xA5).request.operand = .addressingMode (.plain .bx) ∧ AddrMode.plain .bx ≠ .registerMode :=
  ⟨⟨_, exec_ready rfl _⟩, fun _ h => (Operand.addressingMode.inj h).symm, ⟨_, exec_ready rfl _⟩, rfl, by decide⟩

theorem witness_NotApplicableChangesNothing :
    ∃ t r, exec (.write16NoOperand .none 0xBEEF) s0 = .next t ∧ t.response = some r ∧ r.status = .na :=
  ⟨_, _, exec_ready rfl _, rfl, rfl⟩

theorem witness_BusErrorIsRecoverable :
    sUnmapped.halted = false ∧ Spec.reaches (Instr.read8BxSi .es).request sUnmapped.regs = some 0xB8250 ∧
      Spec.errorOf sUnmapped.bus (Spec.callAt 0xB8250 (Instr.read8BxSi .es).request) = some Config.unmapped := by
  decide

theorem witness_FatalIsPrecise :
    ∃ t r, exec (.read16Register16 (.bad 12) .none) s0 = .next t ∧ t.response = some r ∧ r.status = .fatal :=
  ⟨_, _, exec_ready rfl _, rfl, rfl⟩

theorem witness_CostIsPassedThrough :
    (∃ t r, exec (.read8BxSi .none) s0 = .next t ∧ t.response = some r) ∧
    (∃ t r, exec (.read8NoOperand .none) s0 = .next t ∧ t.response = some r) :=
  ⟨⟨_, _, exec_ready rfl _, rfl⟩, ⟨_, _, exec_ready rfl _, rfl⟩⟩

theorem witness_MeaninglessResponseFieldsAreZero :
    ∃ t r, exec (.write8BxSi .es 0xA5) sUnmapped = .next t ∧ t.response = some r ∧ r.status ≠ .ok :=
  ⟨_, _, exec_ready rfl _, rfl, by decide⟩

theorem witness_EveryAcceptedRequestIsAnswered : s0.halted = false := by decide

/-- A halted block, with each list of inputs the clauses name. -/
theorem witness_HaltedBlockAcceptsNothing :
    sHalted.halted = true ∧ sHalted.inputs = [] ∧ (placeRequest 0 sHalted).inputs = .request 0 :: [] ∧
      ({ sHalted with inputs := [.reset] } : State).inputs = .reset :: [] ∧
      ({ sHalted with inputs := [.bus sPlatform.bus] } : State).inputs = .bus sPlatform.bus :: [] := by
  decide

/-- A step of each kind. -/
theorem witness_RegistersChangeOnlyByWritesAndReset :
    (nextState (step s0)).isSome = true ∧ (nextState (step (placeRequest 0x83000000000000A5 s0))).isSome = true ∧
      (nextState (step (placeRequest 0x0780000000000000 s0))).isSome = true ∧
      (nextState (step { sHalted with inputs := [.reset] })).isSome = true ∧
      (nextState (step { s0 with inputs := [.bus sPlatform.bus] })).isSome = true := by
  decide

/-- Both clauses, the next request a memory read based on the register written. -/
theorem witness_NextRequestSeesTheRegisterWrite :
    s0.halted = false ∧ (Instr.read8BxSi .none).wf = true ∧
    (placeRequest (encode (.write16Register16 (.reg .bx) .none 0x0300)) (placeRequest (encode (.read8BxSi .none)) s0)).inputs =
      .request (encode (.write16Register16 (.reg .bx) .none 0x0300)) :: .request (encode (.read8BxSi .none)) :: [] ∧
    (placeRequest (encode (.write8Register8 .bh .none 0x03)) (placeRequest (encode (.read8BxSi .none)) s0)).inputs =
      .request (encode (.write8Register8 .bh .none 0x03)) :: .request (encode (.read8BxSi .none)) :: [] :=
  ⟨rfl, rfl, rfl, rfl⟩

/-- Each clause, the reset one from a halted state. -/
theorem witness_StepsWithoutARequest :
    ({ sHalted with inputs := [.reset] } : State).inputs = .reset :: [] ∧
    ({ s0 with inputs := [.bus sPlatform.bus] } : State).inputs = .bus sPlatform.bus :: [] ∧
    s0.inputs = [] ∧ s0.halted = false := by
  decide

theorem witness_ResetStateMeetsTheInvariants :
    s0.bus.wf = true ∧ [Input.request 0, .reset, .bus s0.bus, .bus sPlatform.bus].all Input.wf = true := by
  decide

theorem witness_StepKeepsMemoryCanonical :
    (placeRequest 0xC40000000000BEEF s0).memoryCanonical = true ∧
      (nextState (step (placeRequest 0xC40000000000BEEF s0))).isSome = true := by
  decide

/-- A ready state whose step halts it, and a halted state whose step resets it. -/
theorem witness_StepKeepsHaltRecorded :
    (placeRequest 0x0400001900000000 s0).haltRecorded = true ∧
      (nextState (step (placeRequest 0x0400001900000000 s0))).isSome = true ∧
      ({ sHalted with inputs := [.reset] } : State).haltRecorded = true ∧
      (nextState (step { sHalted with inputs := [.reset] })).isSome = true := by
  decide

/-- A run of two steps, cut after the first. -/
theorem witness_RunsThatEndWellNeverHalted :
    (placeRequest 0x83000000000000A5 s0).noReset = true ∧ ∃ t, EndsWell (1 + 1) (placeRequest 0x83000000000000A5 s0) t :=
  ⟨by decide, _, rfl, rfl⟩

theorem witness_BusSeesCallsInRequestOrder : ∃ t, run 1 (placeRequest 0xC40000000000BEEF s0) = .next t := ⟨_, rfl⟩

/-- Two states that agree on the registers, the latch and the bus, and differ elsewhere. -/
theorem witness_OnlyBlockAndBusReachTheOutcome :
    s0.regs = (placeRequest 0 s0).regs ∧ s0.halted = (placeRequest 0 s0).halted ∧ s0.bus = (placeRequest 0 s0).bus ∧
      ∃ t, exec (.read16BxSi .none) s0 = .next t :=
  ⟨rfl, rfl, rfl, _, exec_ready rfl _⟩

theorem witness_RefBusByteReadsBack :
    s0.halted = false ∧ s0.bus = .ref ⟨mem34, []⟩ ∧ (RefBus.mk mem34 []).mem.wf = true ∧
      calcEa (.plain .bxSi) .es s0.regs = some (0xB800, 0x0250) ∧
      (RefBus.mk mem34 []).mapped (linearAddr 0xB800 0x0250) = true := by
  decide

/-- A word whose second byte lies at address 0. -/
theorem witness_RefBusWordReadsBack :
    s0.halted = false ∧ s0.bus = .ref ⟨mem34, []⟩ ∧ (RefBus.mk mem34 []).mem.wf = true ∧
      calcEa (.direct 0xFFFF) .cs s0.regs = some (0xF000, 0xFFFF) ∧ linearAddr 0xF000 0xFFFF = 0xFFFFF ∧
      (RefBus.mk mem34 []).wordMapped (linearAddr 0xF000 0xFFFF) = true := by
  decide

/-- Both clauses at the edge of the address space and beside an unmapped region. -/
theorem witness_RefBusStoreFrame :
    sUnmapped.halted = false ∧ sUnmapped.bus = .ref ⟨mem34, [⟨0xA0000, 0xBFFFF⟩]⟩ ∧
      (RefBus.mk mem34 [⟨0xA0000, 0xBFFFF⟩]).mem.wf = true ∧
      calcEa (.direct 0xFFFF) .cs sUnmapped.regs = some (0xF000, 0xFFFF) ∧
      (RefBus.mk mem34 [⟨0xA0000, 0xBFFFF⟩]).mapped (linearAddr 0xF000 0xFFFF) = true ∧
      (RefBus.mk mem34 [⟨0xA0000, 0xBFFFF⟩]).wordMapped (linearAddr 0xF000 0xFFFF) = true := by
  decide

/-- A failing access: the word at `0x9FFFF`, whose second byte is unmapped; and one that succeeds. -/
theorem witness_RefBusReadsAndFailuresChangeNothing :
    sUnmapped.bus = .ref ⟨mem34, [⟨0xA0000, 0xBFFFF⟩]⟩ ∧
    (∃ t r, exec (.read16BxSi .es) sUnmapped = .next t ∧ t.response = some r ∧ r.err = some Config.unmapped) ∧
    Spec.reaches (Instr.read16BxSi .es).request sUnmapped.regs = some 0xB8250 ∧
    (∃ t r, exec (.read16BxSi .none) sUnmapped = .next t ∧ t.response = some r ∧ r.status = .ok) ∧
    (RefBus.mk mem34 [⟨0xA0000, 0xBFFFF⟩]).mapped 0x9FFFF = true ∧
    (RefBus.mk mem34 [⟨0xA0000, 0xBFFFF⟩]).wordMapped 0x9FFFF = false :=
  ⟨rfl, ⟨_, _, exec_ready rfl _, rfl, rfl⟩, by decide, ⟨_, _, exec_ready rfl _, rfl, rfl⟩, by decide, by decide⟩

end Sys2Proof.Tests
end

/-! ## Encoded requests (30_encoding.md R75) -/

namespace Sys2Proof

/-- The decoder on packed fields reads the override, the must-be-zero bits, the operand and the operation in turn. -/
theorem decodeRequest_encodeRequest {r : Request} (h : r.operand.wf = true) : decodeRequest (encodeRequest r) = .ok r := by
  simp [decodeRequest, encodeRequest, Operand.ofPayload_payload _ h, Decoded.bind, Request.ofFields_fields, requireZero]

theorem Request.wf_operand (r : Request) : r.operand.wf = r.wf := by cases r <;> rfl

/-- The word of a well-formed instruction decodes to that instruction. -/
theorem decode_encode {i : Instr} (h : i.wf = true) : decode (encode i) = .ok i := by
  have hr : i.request.operand.wf = true := by rw [Request.wf_operand, Instr.wf_request, h]
  rw [decode, encode, decodeRequest_encodeRequest hr, Decoded.bind, Instr.ofRequest_request]

end Sys2Proof

namespace Sys2Proof.Machine

/-! ## Steps on a request that decodes -/

/-- A word that decodes is served by `exec` of the instruction; in a halted state both are the same fault. -/
theorem serveRequest_of_decode {s : State} {w : ReqWord} {i : Instr} (hd : decode w = .ok i) :
    serveRequest w s = exec i s := by
  cases hh : s.halted with
  | true => rw [exec_halted hh, serveRequest, if_pos hh]
  | false => simp [serveRequest, hh, hd]

/-- A step on a word that decodes is `exec` of the instruction, with the word taken off the inputs. -/
theorem step_of_decode {s : State} {w : ReqWord} {rest : List Input} {i : Instr} (hi : s.inputs = .request w :: rest)
    (hd : decode w = .ok i) : step s = exec i { s with inputs := rest } := by
  rw [step, serveNext, hi]
  exact serveRequest_of_decode hd

theorem step_encode {s : State} {rest : List Input} {i : Instr} (hw : i.wf = true)
    (hi : s.inputs = .request (encode i) :: rest) : step s = exec i { s with inputs := rest } :=
  step_of_decode hi (decode_encode hw)

theorem run_one (s : State) : run 1 s = step s := by
  rw [run_succ]
  cases step s <;> rfl

/-- A run goes on from where its first step ends. -/
theorem run_succ_of_step {s t : State} (k : Nat) (h : step s = .next t) : run (k + 1) s = run k t := by
  simp only [run_succ, h]

/-- Two steps on two requests: the second is `exec` in the state that the first leaves, its own word taken. -/
theorem run_two_requests {s : State} {i j : Instr} {rest : List Input} (hh : s.halted = false) (hwi : i.wf = true)
    (hwj : j.wf = true) (hi : s.inputs = .request (encode i) :: .request (encode j) :: rest) :
    run 2 s = exec j { effect i.request { s with inputs := .request (encode j) :: rest } with inputs := rest } := by
  have h1 : step s = .next (effect i.request { s with inputs := .request (encode j) :: rest }) :=
    (step_encode hwi hi).trans (exec_ready (by exact hh) i)
  rw [run_succ_of_step 1 h1, run_one]
  exact step_encode hwj (effect_inputs _ _)

/-! ## Halves -/

theorem RegFile.getHalf_low (x : RegFile) {h : Reg8} (hl : isHigh h = false) :
    x.getHalf h = lowByte (x.get (pairOf h)) := by
  simp [RegFile.getHalf, hl]

theorem RegFile.getHalf_high (x : RegFile) {h : Reg8} (hh : isHigh h = true) :
    x.getHalf h = highByte (x.get (pairOf h)) := by
  simp [RegFile.getHalf, hh]

theorem RegFile.setHalf_low (x : RegFile) {h : Reg8} (v : Byte) (hl : isHigh h = false) :
    x.setHalf h v = x.set (pairOf h) (withLowByte (x.get (pairOf h)) v) := by
  simp [RegFile.setHalf, hl]

theorem RegFile.setHalf_high (x : RegFile) {h : Reg8} (v : Byte) (hh : isHigh h = true) :
    x.setHalf h v = x.set (pairOf h) (withHighByte (x.get (pairOf h)) v) := by
  simp [RegFile.setHalf, hh]

/-! ## Register writes (10_state.md R36, 44_operand_write.md R207, R223) -/

theorem effect_write16Register16 (r : Reg16) (ovr : SegOverride) (v : Word) (s : State) :
    effect (Instr.write16Register16 (.reg r) ovr v).request s =
      Spec.answered { s with regs := s.regs.set r v } (Spec.okResponse 0 none) := rfl

theorem effect_write8Register8 (id : Reg8) (ovr : SegOverride) (v : Byte) (s : State) :
    effect (Instr.write8Register8 id ovr v).request s =
      Spec.answered { s with regs := s.regs.setHalf id v } (Spec.okResponse 0 none) := rfl

/-! ## The statements about the register file (10_state.md) -/

/-- Settles O49: the first request's effect is the register write, and the second request is executed in the state it leaves. -/
theorem nextRequestSeesTheRegisterWrite : Obligations.NextRequestSeesTheRegisterWrite := by
  intro s ovr i rest hh hwf
  constructor
  · intro r v hi
    rw [run_two_requests hh rfl hwf hi, effect_write16Register16]
    rfl
  · intro id v hi
    rw [run_two_requests hh rfl hwf hi, effect_write8Register8]
    rfl

/-- Settles O1: each half is the low or the high byte of the register it is paired with. -/
theorem halfReadsSelectBits : Obligations.HalfReadsSelectBits := fun x =>
  ⟨x.getHalf_low rfl, x.getHalf_high rfl, x.getHalf_low rfl, x.getHalf_high rfl,
    x.getHalf_low rfl, x.getHalf_high rfl, x.getHalf_low rfl, x.getHalf_high rfl⟩

/-- Settles O2: a half write is one write of the register the half is paired with, of its old value with one byte replaced. -/
theorem halfWritesKeepTheRest : Obligations.HalfWritesKeepTheRest := fun x v =>
  ⟨x.setHalf_low v rfl, x.setHalf_high v rfl, x.setHalf_low v rfl, x.setHalf_high v rfl,
    x.setHalf_low v rfl, x.setHalf_high v rfl, x.setHalf_low v rfl, x.setHalf_high v rfl⟩

end Sys2Proof.Machine

namespace Sys2Proof.Machine

/-! ## Bus calls of an accepted request (20_memory.md R41, R45, R46) -/

/-- The access is one call, of the request's operation and width. -/
@[simp] theorem memEffect_busTrace (r : Request) (a : Addr) (s : State) :
    (memEffect r a s).busTrace = Spec.callAt a r :: s.busTrace := by
  cases r <;> rfl

/-- The access leaves the bus as its one call leaves it. -/
@[simp] theorem memEffect_bus (r : Request) (a : Addr) (s : State) :
    (memEffect r a s).bus = Spec.busAfter s.bus (Spec.callAt a r) := by
  cases r <;> rfl

theorem PlainEffect.makes_no_call {r : Request} {s t : State} (h : PlainEffect r s t) :
    t.busTrace = s.busTrace ∧ t.bus = s.bus := by
  cases h <;> exact ⟨rfl, rfl⟩

/-- A request whose operand is no memory mode makes no bus call, `RegisterMode` included: it is fatal before any access. -/
theorem effect_makes_no_call {r : Request} (s : State)
    (h : ∀ m, r.operand = .addressingMode m → m = .registerMode) :
    (effect r s).busTrace = s.busTrace ∧ (effect r s).bus = s.bus := by
  obtain ⟨_, hplain⟩ | ⟨_, hfatal⟩ | ⟨m, _, _, hm, hne, _, _⟩ := effect_cases r s
  · exact hplain.makes_no_call
  · rw [hfatal]
    exact ⟨rfl, rfl⟩
  · exact absurd (h m hm) hne

/-- A request with a memory mode makes its one call at the translated effective address. -/
theorem effect_makes_one_call {r : Request} {m : AddrMode} (s : State) (hm : r.operand = .addressingMode m)
    (hne : m ≠ .registerMode) :
    ∃ seg off, calcEa m r.override s.regs = some (seg, off) ∧
      (effect r s).busTrace = Spec.callAt (linearAddr seg off) r :: s.busTrace ∧
      (effect r s).bus = Spec.busAfter s.bus (Spec.callAt (linearAddr seg off) r) := by
  obtain ⟨seg, off, hea⟩ := calcEa_memory hne r.override s.regs
  rw [effect_memory hm hea]
  exact ⟨seg, off, hea, memEffect_busTrace .., memEffect_bus ..⟩

/-- Settles O40: an instruction that completes has its request's effect, which makes one call with a memory mode and none
otherwise. -/
theorem oneBusCallPerMemoryRequest : Obligations.OneBusCallPerMemoryRequest := by
  intro i s t h
  obtain ⟨_, rfl⟩ := exec_eq_next h
  exact ⟨effect_makes_no_call s, fun _ => effect_makes_one_call s⟩

end Sys2Proof.Machine

namespace Sys2Proof.Machine

/-! ## The Segment Resolver, case by case (40_segment_resolver.md R90 to R96) -/

section
variable (kind : SegKind) (x : RegFile)

@[simp] theorem resolve_dataSegment_none : resolve .dataSegment .none x = x.ds := rfl
@[simp] theorem resolve_stackSegment_none : resolve .stackSegment .none x = x.ss := rfl

/-! With an override the default kind plays no part. -/

@[simp] theorem resolve_es : resolve kind .es x = x.es := rfl
@[simp] theorem resolve_cs : resolve kind .cs x = x.cs := rfl
@[simp] theorem resolve_ss : resolve kind .ss x = x.ss := rfl
@[simp] theorem resolve_ds : resolve kind .ds x = x.ds := rfl

end

/-- Settles O11: the default kind chooses between `DS` and `SS` only where there is no override. -/
theorem resolveTenCases : Obligations.ResolveTenCases := fun x =>
  ⟨resolve_dataSegment_none x, resolve_stackSegment_none x, (resolve_es · x), (resolve_cs · x),
    (resolve_ss · x), (resolve_ds · x)⟩

end Sys2Proof.Machine

namespace Sys2Proof.Machine

/-! ## Displacements (41_ea_calculator.md R112) -/

/-- Sign extension keeps the signed value. -/
@[simp] theorem toInt_sext16 (d : Byte) : (sext16 d).toInt = d.toInt :=
  BitVec.toInt_signExtend_of_le (by decide)

/-- The bits of a sign-extended displacement are its signed value modulo 2^16. -/
theorem toNat_sext16 (d : Byte) : ((sext16 d).toNat : Int) = d.toInt % 65536 := by
  have hbits := BitVec.toInt_eq_toNat_cond (sext16 d)
  rw [toInt_sext16] at hbits
  have hlt := (sext16 d).isLt
  split at hbits <;> omega

/-- Settles O17: only the 8-bit displacement is changed on its way to 16 bits, and sign extension keeps its value. -/
theorem displacementValues : Obligations.DisplacementValues :=
  ⟨fun _ => rfl, fun _ => toInt_sext16, fun _ _ => rfl, fun _ => rfl⟩

/-! ## Effective addresses, mode by mode (41_ea_calculator.md R113) -/

/-- The wrapping sum of a base's registers; `offsetSum_baseRegs` ties it to the calculator's sum. -/
def baseOffset : EaBase → RegFile → Word
  | .bxSi, x => add16 x.bx x.si
  | .bxDi, x => add16 x.bx x.di
  | .bpSi, x => add16 x.bp x.si
  | .bpDi, x => add16 x.bp x.di
  | .si, x => x.si
  | .di, x => x.di
  | .bp, x => x.bp
  | .bx, x => x.bx

/-- Two registers and a displacement may be added from either end. -/
theorem offsetSum_pair (q r : Reg16) (d : Word) (x : RegFile) :
    offsetSum [q, r] d x = add16 (add16 (x.get q) (x.get r)) d :=
  (BitVec.add_assoc ..).symm

theorem offsetSum_baseRegs (b : EaBase) (d : Word) (x : RegFile) :
    offsetSum (baseRegs b) d x = add16 (baseOffset b x) d := by
  cases b with
  | bxSi | bxDi | bpSi | bpDi => exact offsetSum_pair ..
  | si | di | bp | bx => rfl

section
variable (b : EaBase) (ovr : SegOverride) (x : RegFile)

@[simp] theorem calcEa_plain :
    calcEa (.plain b) ovr x = some (resolve (baseSegKind b) ovr x, baseOffset b x) := by
  have hoff : offsetSum (baseRegs b) 0 x = baseOffset b x := (offsetSum_baseRegs b 0 x).trans (BitVec.add_zero _)
  rw [← hoff]
  rfl

@[simp] theorem calcEa_disp8 (d : Byte) :
    calcEa (.disp8 b d) ovr x = some (resolve (baseSegKind b) ovr x, add16 (baseOffset b x) (sext16 d)) := by
  rw [← offsetSum_baseRegs]
  rfl

@[simp] theorem calcEa_disp16 (d : Word) :
    calcEa (.disp16 b d) ovr x = some (resolve (baseSegKind b) ovr x, add16 (baseOffset b x) d) := by
  rw [← offsetSum_baseRegs]
  rfl

@[simp] theorem calcEa_direct (d : Word) : calcEa (.direct d) ovr x = some (resolve .dataSegment ovr x, d) := rfl

end

/-! ## Payloads of addressing modes (30_encoding.md R69, R72, R73) -/

/-- The parts of a mode's payload, laid side by side, are its code and its displacement field or-ed together at their places. -/
theorem payload_addressingMode (m : AddrMode) :
    (Operand.addressingMode m).payload = m.code.setWidth 32 <<< 16 ||| m.dispField.setWidth 32 := by
  calc (0#11 ++ m.code ++ m.dispField : BitVec 32)
    _ = (0#11 ++ m.code ++ m.dispField).setWidth 32 := (BitVec.setWidth_eq _).symm
    _ = (0#11).setWidth 32 <<< (5 + 16) ||| m.code.setWidth 32 <<< 16 ||| m.dispField.setWidth 32 :=
      BitVec.setWidth_append_append_eq_shiftLeft_setWidth_or
    _ = m.code.setWidth 32 <<< 16 ||| m.dispField.setWidth 32 := by simp

/-- The eight zero bits above an 8-bit displacement do not show in the payload. -/
theorem setWidth_dispField_disp8 (b : EaBase) (d : Byte) :
    (AddrMode.disp8 b d).dispField.setWidth 32 = d.setWidth 32 := by
  calc (0#8 ++ d).setWidth 32
    _ = (d.setWidth 16).setWidth 32 := congrArg _ (BitVec.setWidth_eq_append (by decide)).symm
    _ = d.setWidth 32 := by simp

/-! ## The modes as their rules state them (41_ea_calculator.md R114 to R138) -/

/-- A mode is as its rule says once its effective address is: the encoding is that of every addressing mode. -/
theorem modeIs_of_calcEa {m : AddrMode} {kind : SegKind} {off : Word} {ovr : SegOverride} {x : RegFile}
    (h : calcEa m ovr x = some (resolve kind ovr x, off)) :
    Spec.ModeIs m kind off (m.code.setWidth 32 <<< 16 ||| m.dispField.setWidth 32) ovr x :=
  ⟨h, rfl, payload_addressingMode m⟩

section
variable (b : EaBase) (ovr : SegOverride) (x : RegFile)

theorem modeIs_plain :
    Spec.ModeIs (.plain b) (baseSegKind b) (baseOffset b x) ((0#2 ++ b.code).setWidth 32 <<< 16 ||| 0) ovr x :=
  modeIs_of_calcEa (calcEa_plain b ovr x)

theorem modeIs_disp8 (d : Byte) :
    Spec.ModeIs (.disp8 b d) (baseSegKind b) (add16 (baseOffset b x) (sext16 d))
      ((1#2 ++ b.code).setWidth 32 <<< 16 ||| d.setWidth 32) ovr x := by
  rw [← setWidth_dispField_disp8 b d]
  exact modeIs_of_calcEa (calcEa_disp8 b ovr x d)

theorem modeIs_disp16 (d : Word) :
    Spec.ModeIs (.disp16 b d) (baseSegKind b) (add16 (baseOffset b x) d)
      ((2#2 ++ b.code).setWidth 32 <<< 16 ||| d.setWidth 32) ovr x :=
  modeIs_of_calcEa (calcEa_disp16 b ovr x d)

theorem modeIs_direct (d : Word) :
    Spec.ModeIs (.direct d) .dataSegment d ((24#5).setWidth 32 <<< 16 ||| d.setWidth 32) ovr x :=
  modeIs_of_calcEa (calcEa_direct ovr x d)

end

/-- Settles O13: the base decides the segment kind and the sum, and the payload has the mode code and no displacement. -/
theorem eaWithoutDisplacement : Obligations.EaWithoutDisplacement := by
  intro ovr x
  have hmode (b : EaBase) := modeIs_plain b ovr x
  exact ⟨hmode .bxSi, hmode .bxDi, hmode .bpSi, hmode .bpDi, hmode .si, hmode .di, hmode .bx⟩

/-- Settles O15: the base decides the segment kind and the sum, to which the sign-extended displacement is added. -/
theorem eaWithDisp8 : Obligations.EaWithDisp8 := by
  intro ovr d x
  have hmode (b : EaBase) := modeIs_disp8 b ovr x d
  exact ⟨hmode .bxSi, hmode .bxDi, hmode .bpSi, hmode .bpDi, hmode .si, hmode .di, hmode .bp, hmode .bx⟩

/-- Settles O16: the base decides the segment kind and the sum, to which the displacement is added; the direct form has no base. -/
theorem eaWithDisp16 : Obligations.EaWithDisp16 := by
  intro ovr d x
  have hmode (b : EaBase) := modeIs_disp16 b ovr x d
  exact ⟨hmode .bxSi, hmode .bxDi, hmode .bpSi, hmode .bpDi, hmode .si, hmode .di, hmode .bp, hmode .bx,
    modeIs_direct ovr x d⟩

/-! ## The segment (41_ea_calculator.md R111) -/

/-- A memory mode's default kind is the stack segment exactly when its base includes `BP`. -/
theorem defaultKind_memory {m : AddrMode} (h : m ≠ .registerMode) :
    defaultKind m = some (if Spec.bpBased m then .stackSegment else .dataSegment) := by
  cases m with
  | plain b | disp8 b d | disp16 b d => cases b <;> rfl
  | direct d => rfl
  | registerMode => exact absurd rfl h

/-- A mode's effective address takes the segment resolved from its default kind. -/
theorem calcEa_segment {m : AddrMode} {ovr : SegOverride} {x : RegFile} {seg off : Word}
    (h : calcEa m ovr x = some (seg, off)) : ∃ kind, defaultKind m = some kind ∧ seg = resolve kind ovr x := by
  cases m with
  | plain b | disp8 b d | disp16 b d | direct d =>
    cases h
    exact ⟨_, rfl, rfl⟩
  | registerMode => cases h

/-- Settles O12: the resolved segment is the default one without an override and the overriding register with one. -/
theorem defaultSegmentOfEachMode : Obligations.DefaultSegmentOfEachMode := by
  refine ⟨rfl, fun m ovr x hm => ⟨defaultKind_memory hm, ?_⟩⟩
  obtain ⟨seg, off, hea⟩ := calcEa_memory hm ovr x
  obtain ⟨kind, hkind, rfl⟩ := calcEa_segment hea
  obtain rfl := Option.some.inj (hkind.symm.trans (defaultKind_memory hm))
  refine ⟨off, hea.trans ?_⟩
  cases ovr with
  | none => cases Spec.bpBased m <;> rfl
  | es | cs | ss | ds => rfl

/-! ## The offset as an exact sum (41_ea_calculator.md R140) -/

theorem toNat_add16 (a b : Word) : (add16 a b).toNat = (a.toNat + b.toNat) % 65536 := BitVec.toNat_add a b

/-- The wrapping sum of a base's registers is their exact sum modulo 2^16. -/
theorem toNat_baseOffset (b : EaBase) (x : RegFile) : (baseOffset b x).toNat = Spec.baseSum b x % 65536 := by
  cases b with
  | bxSi | bxDi | bpSi | bpDi => exact toNat_add16 ..
  | si | di | bp | bx => exact (Nat.mod_eq_of_lt (BitVec.isLt _)).symm

/-- Any integer that a displacement is modulo 2^16 may stand for it in the exact sum. -/
theorem toNat_add16_baseOffset (b : EaBase) (x : RegFile) {d : Word} {v : Int} (hd : (d.toNat : Int) = v % 65536) :
    ((add16 (baseOffset b x) d).toNat : Int) = (Spec.baseSum b x + v) % 65536 := by
  rw [toNat_add16, toNat_baseOffset]
  omega

theorem toNat_eq_emod_65536 (d : Word) : (d.toNat : Int) = (d.toNat : Int) % 65536 := by
  have := d.isLt
  omega

/-- The offset of an effective address is the mode's exact sum modulo 2^16. -/
theorem calcEa_offset {m : AddrMode} {ovr : SegOverride} {x : RegFile} {seg off : Word}
    (h : calcEa m ovr x = some (seg, off)) : (off.toNat : Int) = Spec.exactOffset m x % 65536 := by
  cases m with
  | plain b =>
    obtain ⟨_, rfl⟩ : _ ∧ baseOffset b x = off := by simpa using h
    exact congrArg Nat.cast (toNat_baseOffset b x)
  | disp8 b d =>
    obtain ⟨_, rfl⟩ : _ ∧ add16 (baseOffset b x) (sext16 d) = off := by simpa using h
    exact toNat_add16_baseOffset b x (toNat_sext16 d)
  | disp16 b d =>
    obtain ⟨_, rfl⟩ : _ ∧ add16 (baseOffset b x) d = off := by simpa using h
    exact toNat_add16_baseOffset b x (toNat_eq_emod_65536 d)
  | direct d =>
    obtain ⟨_, rfl⟩ : _ ∧ d = off := by simpa using h
    exact toNat_eq_emod_65536 d
  | registerMode => cases h

/-- Settles O18: the offset is the exact sum modulo 2^16, and the segment is resolved without it. -/
theorem offsetWrapsModulo64K : Obligations.OffsetWrapsModulo64K :=
  fun _ _ _ _ _ h => ⟨calcEa_offset h, calcEa_segment h⟩

end Sys2Proof.Machine

/-! ## The linear translator (42_linear_translator.md R150) -/

namespace Sys2Proof.Machine

/-- The shift in 20 bits loses only what the reduction modulo 2^20 drops. -/
theorem toNat_linearAddr (seg off : Word) :
    (linearAddr seg off).toNat = (seg.toNat * 16 + off.toNat) % 2 ^ 20 := by
  rw [linearAddr, BitVec.toNat_add, BitVec.toNat_shiftLeft, BitVec.toNat_setWidth, BitVec.toNat_setWidth, Nat.shiftLeft_eq]
  omega

/-- Settles O21: adding the shifted segment and the offset in 20 bits gives the exact sum modulo 2^20. -/
theorem translateFormula : Obligations.TranslateFormula :=
  toNat_linearAddr

end Sys2Proof.Machine

namespace Sys2Proof.Machine

/-! ## Reads change no state of the block (43_operand_read.md R189) -/

/-- Only a write request has a plain effect that writes a register. -/
theorem PlainEffect.regs_of_read {r : Request} {o : Operand} {ovr : SegOverride} {s t : State} (h : PlainEffect r s t)
    (hr : r = .read8 o ovr ∨ r = .read16 o ovr) : t.regs = s.regs := by
  cases h with
  | value8 | value16 | na | bad => rfl
  | half _ _ _ hw | reg _ _ _ hw => simp [hw] at hr

theorem effect_regs_of_read {r : Request} {o : Operand} {ovr : SegOverride} (s : State)
    (hr : r = .read8 o ovr ∨ r = .read16 o ovr) : (effect r s).regs = s.regs := by
  obtain ⟨_, hplain⟩ | ⟨_, hfatal⟩ | ⟨_, _, _, _, _, _, hmem⟩ := effect_cases r s
  · exact hplain.regs_of_read hr
  · rw [hfatal, fatalEntry_regs]
  · rw [hmem, memEffect_regs]

/-- The one plain effect that writes the latch and the record ends fatal. -/
theorem PlainEffect.latch_of_not_fatal {r : Request} {s t : State} (h : PlainEffect r s t)
    (hf : ∀ p, t.response = some p → p.status ≠ .fatal) : t.halted = s.halted ∧ t.diag = s.diag := by
  cases h with
  | value8 | value16 | na | half | reg => exact ⟨rfl, rfl⟩
  | bad => exact absurd rfl (hf _ rfl)

/-- A request that does not end fatal leaves `HALTED` and `DIAG`. -/
theorem effect_latch_of_not_fatal (r : Request) (s : State)
    (hf : ∀ p, (effect r s).response = some p → p.status ≠ .fatal) :
    (effect r s).halted = s.halted ∧ (effect r s).diag = s.diag := by
  obtain ⟨_, hplain⟩ | ⟨_, hfatal⟩ | ⟨_, _, _, _, _, _, hmem⟩ := effect_cases r s
  · exact hplain.latch_of_not_fatal hf
  · rw [hfatal] at hf
    exact absurd rfl (hf _ rfl)
  · rw [hmem]
    exact ⟨memEffect_halted .., memEffect_diag ..⟩

/-- The bus is untouched, or as the request's one call left it. -/
theorem effect_bus_cases (r : Request) (s : State) :
    ((effect r s).bus = s.bus ∧ (effect r s).busTrace = s.busTrace) ∨
      ∃ a, (effect r s).busTrace = Spec.callAt a r :: s.busTrace ∧
        (effect r s).bus = Spec.busAfter s.bus (Spec.callAt a r) := by
  by_cases h : ∀ m, r.operand = .addressingMode m → m = .registerMode
  · exact .inl (effect_makes_no_call s h).symm
  · obtain ⟨m, hm, hne⟩ : ∃ m, r.operand = .addressingMode m ∧ m ≠ .registerMode := by simpa using h
    obtain ⟨seg, off, _, hcall⟩ := effect_makes_one_call s hm hne
    exact .inr ⟨linearAddr seg off, hcall⟩

/-- The one call of a read is the bus read of its width. -/
theorem effect_bus_of_read {r : Request} {o : Operand} {ovr : SegOverride} (s : State)
    (hr : r = .read8 o ovr ∨ r = .read16 o ovr) :
    ((effect r s).bus = s.bus ∧ (effect r s).busTrace = s.busTrace) ∨
      ∃ a, ((effect r s).busTrace = .readU8 a :: s.busTrace ∧ (effect r s).bus = (s.bus.readU8 a).2) ∨
        ((effect r s).busTrace = .readU16 a :: s.busTrace ∧ (effect r s).bus = (s.bus.readU16 a).2) := by
  obtain huntouched | ⟨a, hcall⟩ := effect_bus_cases r s
  · exact .inl huntouched
  · obtain rfl | rfl := hr
    · exact .inr ⟨a, .inl hcall⟩
    · exact .inr ⟨a, .inr hcall⟩

/-- Settles O39: an instruction that completes has its request's effect, and a read's effect writes no register, the latch and the
record only by a fatal outcome, and the bus only by its one read. -/
theorem readsChangeNoBlockState : Obligations.ReadsChangeNoBlockState := by
  intro i o ovr s t hr h
  obtain ⟨_, rfl⟩ := exec_eq_next h
  exact ⟨effect_regs_of_read s hr, effect_resetRegs _ s, effect_inputs _ s, effect_latch_of_not_fatal _ s,
    effect_bus_of_read s hr⟩

end Sys2Proof.Machine

namespace Sys2Proof

/-! ## The fields of an instruction's word (30_encoding.md R65) -/

/-- A zero-extended payload or data field. -/
theorem zero_append_eq_setWidth {k n : Nat} (v : BitVec n) : 0#k ++ v = v.setWidth (k + n) := by
  rw [BitVec.setWidth_eq_append (Nat.le_add_left n k)]
  simp

/-- The fields of an instruction's word are those of its request, with the payload as its rule writes it. -/
theorem encoded_of_payload {i : Instr} {p : BitVec 32} (hp : i.request.operand.payload = p) :
    Spec.Encoded i i.request.opCode i.request.operand.kindCode p i.request.wdata := by
  rw [← hp]
  exact ⟨opField_pack .., kindField_pack .., payloadField_pack .., wdataField_pack ..⟩

end Sys2Proof

namespace Sys2Proof.Machine

/-! ## Operand reads without a memory access (43_operand_read.md R161 to R188) -/

/-- In a ready block an instruction completes with its request's effect, and its word has its request's fields. -/
theorem exec_ready_encoded {s : State} {i : Instr} {p : BitVec 32} (hh : s.halted = false)
    (hp : i.request.operand.payload = p) :
    exec i s = .next (effect i.request s) ∧
      Spec.Encoded i i.request.opCode i.request.operand.kindCode p i.request.wdata :=
  ⟨exec_ready hh i, encoded_of_payload hp⟩

/-- Settles O24: each of the three operands holds or names its value, which the response shows. -/
theorem read8ValueKinds : Obligations.Read8ValueKinds := fun _ _ hh =>
  ⟨fun v => exec_ready_encoded hh (zero_append_eq_setWidth v), fun r => exec_ready_encoded hh (zero_append_eq_setWidth r),
    fun id => exec_ready_encoded hh (zero_append_eq_setWidth id.code)⟩

/-- Settles O25: the effect of each of the eight kinds is the response `NA`, whatever its payload. -/
theorem read8NotApplicableKinds : Obligations.Read8NotApplicableKinds := by
  intro s ovr w w2 hh
  have hword : 0#16 ++ w = w.setWidth 32 := zero_append_eq_setWidth w
  simp only [Spec.read8NotApplicable, List.forall_mem_cons]
  exact ⟨exec_ready_encoded hh hword, exec_ready_encoded hh hword, exec_ready_encoded hh hword,
    exec_ready_encoded hh hword, exec_ready_encoded hh hword, exec_ready_encoded hh rfl,
    exec_ready_encoded hh rfl, exec_ready_encoded hh rfl, List.forall_mem_nil _⟩

/-- Settles O28: the effect of each of the nine kinds is the response `NA`, whatever its payload. -/
theorem read16NotApplicableKinds : Obligations.Read16NotApplicableKinds := by
  intro s ovr b w w2 r8 hh
  have hbyte : 0#24 ++ b = b.setWidth 32 := zero_append_eq_setWidth b
  have hword : 0#16 ++ w = w.setWidth 32 := zero_append_eq_setWidth w
  have hreg : 0#29 ++ r8.code = r8.code.setWidth 32 := zero_append_eq_setWidth r8.code
  simp only [Spec.read16NotApplicable, List.forall_mem_cons]
  exact ⟨exec_ready_encoded hh hbyte, exec_ready_encoded hh hbyte, exec_ready_encoded hh hword,
    exec_ready_encoded hh hword, exec_ready_encoded hh hreg, exec_ready_encoded hh hword,
    exec_ready_encoded hh rfl, exec_ready_encoded hh rfl, exec_ready_encoded hh rfl, List.forall_mem_nil _⟩

end Sys2Proof.Machine

namespace Sys2Proof.Machine

/-! ## Operand writes without a memory access (44_operand_write.md R201 to R228) -/

/-- Settles O30: the effect writes the half that the operand names, and the response shows no value and no cost. -/
theorem write8RegisterHalf : Obligations.Write8RegisterHalf := by
  intro s ovr id v hh
  have hdata : 0#8 ++ v = v.setWidth 16 := zero_append_eq_setWidth v
  rw [← hdata]
  exact exec_ready_encoded hh (zero_append_eq_setWidth id.code)

/-- Settles O31: the effect of each of the ten kinds is the response `NA`, whatever its payload and the value. -/
theorem write8NotApplicableKinds : Obligations.Write8NotApplicableKinds := by
  intro s ovr b w w2 v hh
  have hbyte : 0#24 ++ b = b.setWidth 32 := zero_append_eq_setWidth b
  have hword : 0#16 ++ w = w.setWidth 32 := zero_append_eq_setWidth w
  have hdata : 0#8 ++ v = v.setWidth 16 := zero_append_eq_setWidth v
  simp only [← hdata, Spec.write8NotApplicable, List.forall_mem_cons]
  exact ⟨exec_ready_encoded hh hbyte, exec_ready_encoded hh hword, exec_ready_encoded hh hbyte,
    exec_ready_encoded hh hword, exec_ready_encoded hh hword, exec_ready_encoded hh hword,
    exec_ready_encoded hh hword, exec_ready_encoded hh rfl, exec_ready_encoded hh rfl,
    exec_ready_encoded hh rfl, List.forall_mem_nil _⟩

/-- Settles O34: the effect of each of the ten kinds is the response `NA`, whatever its payload and the value. -/
theorem write16NotApplicableKinds : Obligations.Write16NotApplicableKinds := by
  intro s ovr b w w2 v hh
  have hbyte : 0#24 ++ b = b.setWidth 32 := zero_append_eq_setWidth b
  have hword : 0#16 ++ w = w.setWidth 32 := zero_append_eq_setWidth w
  simp only [Spec.write16NotApplicable, List.forall_mem_cons]
  exact ⟨exec_ready_encoded hh hbyte, exec_ready_encoded hh hword, exec_ready_encoded hh hbyte,
    exec_ready_encoded hh hword, exec_ready_encoded hh hword, exec_ready_encoded hh hword,
    exec_ready_encoded hh hword, exec_ready_encoded hh rfl, exec_ready_encoded hh rfl,
    exec_ready_encoded hh rfl, List.forall_mem_nil _⟩

end Sys2Proof.Machine

namespace Sys2Proof.Machine

/-! ## Requests that end `NA` (60_exceptions.md R249) -/

/-- A read's bus call answers `OK` or `BUS_ERROR`. -/
theorem readResponse_status_ne_na {α : Type} {ok : α → Option Cost → Response} (hok : ∀ v c, (ok v c).status = .ok)
    (b : BusResult α) : (readResponse ok b).status ≠ .na := by
  cases b with
  | ok v c => simp [readResponse, hok]
  | err e => simp [readResponse, Response.busFailed]

/-- A write's bus call answers `OK` or `BUS_ERROR`. -/
theorem writeResponse_status_ne_na (b : BusResult Unit) : (writeResponse b).status ≠ .na := by
  cases b with
  | ok u c => simp [writeResponse, Response.okWrite]
  | err e => simp [writeResponse, Response.busFailed]

/-- A request that reaches the bus does not end `NA`. -/
theorem memEffect_status_ne_na {r : Request} {a : Addr} {s : State} {p : Response}
    (hp : (memEffect r a s).response = some p) : p.status ≠ .na := by
  cases r with
  | read8 | read16 =>
    obtain rfl := Option.some.inj hp
    exact readResponse_status_ne_na (fun _ _ => rfl) _
  | write8 | write16 =>
    obtain rfl := Option.some.inj hp
    exact writeResponse_status_ne_na _

/-- The one plain effect that ends `NA` is the response alone. -/
theorem PlainEffect.eq_answered_of_na {r : Request} {s t : State} {p : Response} (h : PlainEffect r s t)
    (hp : t.response = some p) (hna : p.status = .na) : t = Spec.answered s Spec.naResponse := by
  cases h with
  | na => rfl
  | value8 | value16 | half | reg | bad =>
    obtain rfl := Option.some.inj hp
    exact absurd hna Status.noConfusion

theorem effect_eq_answered_of_na {r : Request} {s : State} {p : Response} (hp : (effect r s).response = some p)
    (hna : p.status = .na) : effect r s = Spec.answered s Spec.naResponse := by
  obtain ⟨_, hplain⟩ | ⟨_, hfatal⟩ | ⟨_, _, _, _, _, _, hmem⟩ := effect_cases r s
  · exact hplain.eq_answered_of_na hp hna
  · rw [hfatal] at hp
    obtain rfl := Option.some.inj hp
    exact absurd hna Status.noConfusion
  · rw [hmem] at hp
    exact absurd hna (memEffect_status_ne_na hp)

/-- Settles O41: an instruction that completes has its request's effect, and neither a fatal outcome, a bus call nor a plain effect
with another status ends `NA`. -/
theorem notApplicableChangesNothing : Obligations.NotApplicableChangesNothing := by
  intro i s t r h hr hna
  obtain ⟨_, rfl⟩ := exec_eq_next h
  have hanswered := effect_eq_answered_of_na hr hna
  rw [hanswered] at hr
  exact ⟨(Option.some.inj hr).symm, hanswered⟩

end Sys2Proof.Machine

namespace Sys2Proof

/-! ## The two round trips of the request word (30_encoding.md R75) -/

/-- A word that decodes to a request has the fields of that request, and the request's operand is well-formed. -/
theorem encodeRequest_of_decodeRequest {w : ReqWord} {r : Request} (h : decodeRequest w = .ok r) :
    encodeRequest r = w ∧ r.wf = true := by
  unfold decodeRequest at h
  split at h
  · cases h
  · next ovr hovr =>
    obtain ⟨_, hmbz, h⟩ := Decoded.bind_eq_ok h
    obtain ⟨o, hoperand, h⟩ := Decoded.bind_eq_ok h
    obtain ⟨hmbz, -⟩ := requireZero_eq_ok hmbz
    obtain ⟨hkind, hpayload, hwf⟩ := Operand.payload_of_ofPayload hoperand
    obtain ⟨hop, rfl, rfl, hwdata⟩ := Request.fields_of_ofFields h
    refine ⟨?_, (Request.wf_operand r).symm.trans hwf⟩
    calc encodeRequest r
      _ = packFields (opField w) (ovrField w) (kindField w) (mbzField w) (payloadField w) (wdataField w) := by
        rw [encodeRequest, hop, SegOverride.code_of_ofCode _ _ hovr, hkind, hmbz, hpayload, hwdata]
      _ = w := pack_fields w

/-- Settles O5: the decoder reads each packed field of a well-formed request back. -/
theorem decodeOfEncodeIsTheInstruction : Obligations.DecodeOfEncodeIsTheInstruction := fun _ => decode_encode

/-- Settles O6: the fields of a word that decodes are those of the request, whose instruction is the decoded one. -/
theorem encodeOfDecodeIsTheWord : Obligations.EncodeOfDecodeIsTheWord := by
  intro w i h
  obtain ⟨r, hr, h⟩ := Decoded.bind_eq_ok h
  obtain rfl : Instr.ofRequest r = i := by simpa using h
  rw [← Instr.wf_request, encode, Instr.request_ofRequest]
  exact encodeRequest_of_decodeRequest hr

end Sys2Proof

namespace Sys2Proof.Machine

/-! ## The memory stays canonical (20_memory.md R50) -/

theorem State.memoryCanonical_iff (s : State) :
    s.memoryCanonical = true ↔ s.bus.wf = true ∧ s.inputs.all Input.wf = true := Bool.and_eq_true_iff

/-- A bus call leaves a canonical memory canonical. -/
theorem Bus.wf_busAfter {b : Bus} (h : b.wf = true) (c : BusCall) : (Spec.busAfter b c).wf = true := by
  cases c with
  | readU8 a => exact Bus.wf_readU8 h a
  | readU16 a => exact Bus.wf_readU16 h a
  | writeU8 a v => exact Bus.wf_writeU8 h a v
  | writeU16 a v => exact Bus.wf_writeU16 h a v

/-- The input a step takes and the inputs it leaves are as good as the list was. -/
theorem State.memoryCanonical_take {s : State} {x : Input} {rest : List Input} (hs : s.memoryCanonical = true)
    (hi : s.inputs = x :: rest) : x.wf = true ∧ ({ s with inputs := rest } : State).memoryCanonical = true := by
  rw [State.memoryCanonical_iff, hi, List.all_cons, Bool.and_eq_true] at hs
  obtain ⟨hbus, hx, hrest⟩ := hs
  exact ⟨hx, (State.memoryCanonical_iff _).2 ⟨hbus, hrest⟩⟩

theorem effect_memoryCanonical (r : Request) {s : State} (hs : s.memoryCanonical = true) :
    (effect r s).memoryCanonical = true := by
  rw [State.memoryCanonical_iff] at hs ⊢
  obtain ⟨hbus, hinputs⟩ := hs
  rw [effect_inputs]
  refine ⟨?_, hinputs⟩
  obtain ⟨huntouched, _⟩ | ⟨a, _, hcall⟩ := effect_bus_cases r s
  · rwa [huntouched]
  · rw [hcall]
    exact Bus.wf_busAfter hbus _

/-- Settles O52: a request's one bus call keeps the memory canonical, and a bus that is connected was canonical as an input. -/
theorem stepKeepsMemoryCanonical : Obligations.StepKeepsMemoryCanonical := by
  intro s t hs hstep
  cases step_cases hstep with
  | wait => exact hs
  | ran w rest i hi => exact effect_memoryCanonical _ (s.memoryCanonical_take hs hi).2
  | malformed w rest why hi => exact (s.memoryCanonical_take hs hi).2
  | reset rest hi => exact (s.memoryCanonical_take hs hi).2
  | bus b rest hi =>
    obtain ⟨hb, hrest⟩ := s.memoryCanonical_take hs hi
    exact (State.memoryCanonical_iff _).2 ⟨hb, ((State.memoryCanonical_iff _).1 hrest).2⟩

end Sys2Proof.Machine

namespace Sys2Proof.Machine

/-! ## How a request completes: its outcomes with the response, and the bus's answer (60_exceptions.md R240) -/

/-- A value that the response to a request may show (30_encoding.md R78): one byte for `read8`, none for a write. -/
def ValueFits : Request → Word → Prop
  | .read8 _ _, v => v.extractLsb' 8 8 = 0
  | .read16 _ _, _ => True
  | .write8 _ _ _, v | .write16 _ _ _, v => v = 0

theorem ValueFits.zero (r : Request) : ValueFits r 0 := by
  cases r with
  | read8 | write8 | write16 => rfl
  | read16 => trivial

theorem ValueFits.read8 {r : Request} {v : Word} (h : ValueFits r v) (o : Operand) (ovr : SegOverride)
    (hr : r = .read8 o ovr) : v.extractLsb' 8 8 = 0 := by
  subst hr
  exact h

theorem ValueFits.write {r : Request} {v : Word} (h : ValueFits r v) (h8 : ∀ o ovr, r ≠ .read8 o ovr)
    (h16 : ∀ o ovr, r ≠ .read16 o ovr) : v = 0 := by
  cases r with
  | read8 o ovr => exact absurd rfl (h8 o ovr)
  | read16 o ovr => exact absurd rfl (h16 o ovr)
  | write8 | write16 => exact h

theorem extract_high_setWidth (v : Byte) : (v.setWidth 16).extractLsb' 8 8 = 0 := by
  rw [← zero_append_eq_setWidth (k := 8)]
  exact extract_append_top _ _

/-- The one access of a request completes as the bus answers its call: `OK` with the bus's cost, or `BUS_ERROR` with its error. -/
theorem memEffect_cases (r : Request) (a : Addr) (s : State) :
    (∃ v c, Spec.costOf s.bus (Spec.callAt a r) = some c ∧ Spec.errorOf s.bus (Spec.callAt a r) = none ∧ ValueFits r v ∧
      memEffect r a s = Spec.afterCall s (Spec.callAt a r) (Spec.busAfter s.bus (Spec.callAt a r))
        (Spec.okResponse v (some c))) ∨
    (∃ e, Spec.costOf s.bus (Spec.callAt a r) = none ∧ Spec.errorOf s.bus (Spec.callAt a r) = some e ∧
      memEffect r a s = Spec.afterCall s (Spec.callAt a r) (Spec.busAfter s.bus (Spec.callAt a r))
        (Spec.busErrorResponse e)) := by
  cases r with
  | read8 o ovr =>
    simp only [Spec.callAt, Spec.costOf, Spec.errorOf]
    obtain ⟨v, c, hbus, heffect⟩ | ⟨e, hbus, heffect⟩ := memRead8_cases a s
    · rw [hbus]
      exact .inl ⟨_, c, rfl, rfl, extract_high_setWidth v, heffect⟩
    · rw [hbus]
      exact .inr ⟨e, rfl, rfl, heffect⟩
  | read16 o ovr =>
    simp only [Spec.callAt, Spec.costOf, Spec.errorOf]
    obtain ⟨v, c, hbus, heffect⟩ | ⟨e, hbus, heffect⟩ := memRead16_cases a s
    · rw [hbus]
      exact .inl ⟨v, c, rfl, rfl, trivial, heffect⟩
    · rw [hbus]
      exact .inr ⟨e, rfl, rfl, heffect⟩
  | write8 o ovr v =>
    simp only [Spec.callAt, Spec.costOf, Spec.errorOf]
    obtain ⟨_, c, hbus, heffect⟩ | ⟨e, hbus, heffect⟩ := memWrite8_cases v a s
    · rw [hbus]
      exact .inl ⟨0, c, rfl, rfl, rfl, heffect⟩
    · rw [hbus]
      exact .inr ⟨e, rfl, rfl, heffect⟩
  | write16 o ovr v =>
    simp only [Spec.callAt, Spec.costOf, Spec.errorOf]
    obtain ⟨_, c, hbus, heffect⟩ | ⟨e, hbus, heffect⟩ := memWrite16_cases v a s
    · rw [hbus]
      exact .inl ⟨0, c, rfl, rfl, rfl, heffect⟩
    · rw [hbus]
      exact .inr ⟨e, rfl, rfl, heffect⟩

/-- The ways a request completes: `FATAL`, `NA`, `OK` without a bus call and with one, and `BUS_ERROR`. -/
inductive Completion (r : Request) (s : State) : State → Prop where
  /-- A fatal outcome, found before any bus call. -/
  | fatal (c : Cause) (hc : c ≠ .noFatal) (hreach : Spec.reaches r s.regs = none) :
      Completion r s (Spec.afterFatal s c (encodeRequest r))
  /-- Not applicable. -/
  | notApplicable (hreach : Spec.reaches r s.regs = none) : Completion r s (Spec.answered s Spec.naResponse)
  /-- `OK` without a bus call; a register write leaves the registers `x`. -/
  | direct (x : RegFile) (v : Word) (hreach : Spec.reaches r s.regs = none) (hv : ValueFits r v) :
      Completion r s (Spec.answered { s with regs := x } (Spec.okResponse v none))
  /-- `OK` after the one bus call. -/
  | access (a : Addr) (v : Word) (c : Cost) (hreach : Spec.reaches r s.regs = some a)
      (hcost : Spec.costOf s.bus (Spec.callAt a r) = some c) (herr : Spec.errorOf s.bus (Spec.callAt a r) = none)
      (hv : ValueFits r v) :
      Completion r s (Spec.afterCall s (Spec.callAt a r) (Spec.busAfter s.bus (Spec.callAt a r)) (Spec.okResponse v (some c)))
  /-- `BUS_ERROR` after the one bus call. -/
  | busError (a : Addr) (e : BusError) (hreach : Spec.reaches r s.regs = some a)
      (hcost : Spec.costOf s.bus (Spec.callAt a r) = none) (herr : Spec.errorOf s.bus (Spec.callAt a r) = some e) :
      Completion r s (Spec.afterCall s (Spec.callAt a r) (Spec.busAfter s.bus (Spec.callAt a r)) (Spec.busErrorResponse e))

theorem reaches_memory {r : Request} {m : AddrMode} (hm : r.operand = .addressingMode m) (x : RegFile) :
    Spec.reaches r x = (calcEa m r.override x).map fun p => linearAddr p.1 p.2 := by
  simp [Spec.reaches, hm]

theorem reaches_of_not_memory {r : Request} (hm : ∀ m, r.operand ≠ .addressingMode m) (x : RegFile) :
    Spec.reaches r x = none := by
  unfold Spec.reaches
  split
  · next m h => exact absurd h (hm m)
  · rfl

theorem PlainEffect.completion {r : Request} {s t : State} (hreach : Spec.reaches r s.regs = none)
    (h : PlainEffect r s t) : Completion r s t := by
  cases h with
  | value8 o ovr v hr =>
    subst hr
    exact .direct s.regs _ hreach (extract_high_setWidth v)
  | value16 o ovr v hr =>
    subst hr
    exact .direct s.regs v hreach trivial
  | na => exact .notApplicable hreach
  | half id ovr v hr =>
    subst hr
    exact .direct _ 0 hreach rfl
  | reg q ovr v hr =>
    subst hr
    exact .direct _ 0 hreach rfl
  | bad => exact .fatal _ Cause.noConfusion hreach

/-- Every request completes in one of these ways. -/
theorem effect_completion (r : Request) (s : State) : Completion r s (effect r s) := by
  obtain ⟨hm, hplain⟩ | ⟨hm, hfatal⟩ | ⟨m, seg, off, hm, _, hea, hmem⟩ := effect_cases r s
  · exact hplain.completion (reaches_of_not_memory hm _)
  · rw [hfatal]
    exact .fatal _ Cause.noConfusion (reaches_memory hm _)
  · have hreach : Spec.reaches r s.regs = some (linearAddr seg off) := by simp [reaches_memory hm, hea]
    rw [hmem]
    obtain ⟨v, c, hcost, herr, hv, heffect⟩ | ⟨e, hcost, herr, heffect⟩ := memEffect_cases r (linearAddr seg off) s
    · rw [heffect]
      exact .access _ v c hreach hcost herr hv
    · rw [heffect]
      exact .busError _ e hreach hcost herr

/-- A ready block completes every instruction, in one of these ways. -/
theorem exec_ready_completion {s : State} (hh : s.halted = false) (i : Instr) :
    ∃ t, exec i s = .next t ∧ Completion i.request s t :=
  ⟨_, exec_ready hh i, effect_completion _ s⟩

/-- An instruction that completes does so in one of these ways. -/
theorem exec_completion {i : Instr} {s t : State} (h : exec i s = .next t) : Completion i.request s t := by
  obtain ⟨_, rfl⟩ := exec_eq_next h
  exact effect_completion _ s

/-! ## The statements about outcomes (60_exceptions.md) -/

/-- Settles O42: at the reached address the request completes as the bus answers, and the bus answers with the error. -/
theorem busErrorIsRecoverable : Obligations.BusErrorIsRecoverable := by
  intro i s a e hh hreach herr
  obtain ⟨t, h, hc⟩ := exec_ready_completion hh i
  rw [h]
  cases hc with
  | fatal _ _ hnone | notApplicable hnone | direct _ _ hnone => simp [hreach] at hnone
  | access a' _ _ hsome _ hok =>
    obtain rfl := Option.some.inj (hreach.symm.trans hsome)
    simp [herr] at hok
  | busError a' e' hsome _ herr' =>
    obtain rfl := Option.some.inj (hreach.symm.trans hsome)
    obtain rfl := Option.some.inj (herr.symm.trans herr')
    rfl

/-- Settles O43: of the ways a request completes only the fatal one has the status `FATAL`. -/
theorem fatalIsPrecise : Obligations.FatalIsPrecise := by
  intro i s t r h hr hfatal
  cases exec_completion h with
  | fatal c hc =>
    obtain rfl := Option.some.inj hr
    exact ⟨hc, rfl, rfl⟩
  | notApplicable | direct | access | busError =>
    obtain rfl := Option.some.inj hr
    exact absurd hfatal Status.noConfusion

/-- Settles O44: each way a request completes shows the cost of its successful call, and none without one. -/
theorem costIsPassedThrough : Obligations.CostIsPassedThrough := by
  intro i s t r h hr
  cases exec_completion h with
  | fatal _ _ hreach | notApplicable hreach | direct _ _ hreach =>
    obtain rfl := Option.some.inj hr
    rw [hreach]
    rfl
  | access a v c hreach hcost | busError a e hreach hcost =>
    obtain rfl := Option.some.inj hr
    rw [hreach]
    exact hcost.symm

/-- Settles O45: each way a request completes has one shape of response, and its value fits the request. -/
theorem meaninglessResponseFieldsAreZero : Obligations.MeaninglessResponseFieldsAreZero := by
  intro i s t r h hr
  cases exec_completion h with
  | fatal | notApplicable | busError =>
    obtain rfl := Option.some.inj hr
    exact ⟨fun _ => ⟨rfl, rfl⟩, by simp [Spec.fatalResponse, Spec.naResponse, Spec.busErrorResponse],
      by simp [Spec.fatalResponse, Spec.naResponse, Spec.busErrorResponse],
      (ValueFits.zero _).read8, (ValueFits.zero _).write⟩
  | direct _ _ _ hv | access _ _ _ _ _ _ hv =>
    obtain rfl := Option.some.inj hr
    exact ⟨fun hne => absurd rfl hne, by simp [Spec.okResponse], fun _ => ⟨rfl, rfl⟩, hv.read8, hv.write⟩

/-- Settles O46: each way a request completes has a response; only the fatal one changes the latch and the record, and only an
`OK` without a bus call the registers. -/
theorem everyAcceptedRequestIsAnswered : Obligations.EveryAcceptedRequestIsAnswered := by
  intro i s hh
  obtain ⟨t, h, hc⟩ := exec_ready_completion hh i
  rw [h]
  cases hc with
  | fatal c =>
    exact ⟨_, _, rfl, rfl, iff_of_true rfl rfl, fun hne => absurd rfl hne, fun _ => rfl⟩
  | notApplicable | busError | access =>
    exact ⟨_, _, rfl, rfl, iff_of_false (ne_true_of_eq_false hh) Status.noConfusion, fun _ => rfl, fun _ => rfl⟩
  | direct =>
    exact ⟨_, _, rfl, rfl, iff_of_false (ne_true_of_eq_false hh) Status.noConfusion, fun _ => rfl,
      fun hne => absurd rfl hne⟩

end Sys2Proof.Machine

namespace Sys2Proof.Machine

/-! ## `HALTED` and `DIAG` stay in agreement (10_state.md R31, R32) -/

theorem State.haltRecorded_iff (s : State) :
    s.haltRecorded = true ↔ (s.halted = true ↔ s.diag.cause ≠ .noFatal) ∧ (s.halted = false → s.diag.req = 0) :=
  decide_eq_true_iff

/-- A fatal entry records its cause. -/
theorem fatalEntry_haltRecorded {c : Cause} (hc : c ≠ .noFatal) (w : ReqWord) (s : State) :
    (fatalEntry c w s).haltRecorded = true :=
  (State.haltRecorded_iff _).2 ⟨iff_of_true rfl hc, fun h => absurd h.symm Bool.false_ne_true⟩

theorem applyReset_haltRecorded (s : State) : (applyReset s).haltRecorded = true := rfl

/-- A request ends in a fatal entry or leaves the latch and the record. -/
theorem Completion.haltRecorded {r : Request} {s t : State} (h : Completion r s t) (hs : s.haltRecorded = true) :
    t.haltRecorded = true := by
  cases h with
  | fatal c hc => exact fatalEntry_haltRecorded hc _ s
  | notApplicable | direct | access | busError => exact hs

/-- Settles O53: a fatal entry sets both, reset clears both, and every other step leaves both. -/
theorem stepKeepsHaltRecorded : Obligations.StepKeepsHaltRecorded := by
  intro s t hs hstep
  cases step_cases hstep with
  | wait | bus => exact hs
  | ran w rest i => exact (effect_completion _ _).haltRecorded hs
  | malformed w rest => exact fatalEntry_haltRecorded Cause.noConfusion w _
  | reset rest => exact applyReset_haltRecorded _

/-! ## The registers as cells and halves (10_state.md R26) -/

/-- Settles O4: a write reaches the one cell it names. -/
theorem registerWriteReadsBack : Obligations.RegisterWriteReadsBack := RegFile.get_set

/-- A half is known by its register and its side. -/
theorem half_eq_of_pairOf_isHigh {h k : Reg8} (hp : pairOf k = pairOf h) (hs : isHigh k = isHigh h) : k = h := by
  revert hp hs
  cases h <;> cases k <;> decide

/-- Either half of the register a half was written in: the one written reads the value, the other its old one. -/
theorem RegFile.getHalf_setHalf_same_pair (x : RegFile) {h k : Reg8} (v : Byte) (hp : pairOf k = pairOf h) :
    (x.setHalf h v).getHalf k = if isHigh k = isHigh h then v else x.getHalf k := by
  simp only [RegFile.getHalf, RegFile.setHalf, hp, RegFile.get_set_self]
  cases isHigh k <;> cases isHigh h <;> simp

theorem RegFile.getHalf_setHalf_other_pair (x : RegFile) {h k : Reg8} (v : Byte) (hp : pairOf k ≠ pairOf h) :
    (x.setHalf h v).getHalf k = x.getHalf k := by
  rw [RegFile.getHalf, RegFile.get_setHalf_other x h v hp, ← RegFile.getHalf]

theorem RegFile.getHalf_setHalf (x : RegFile) (h k : Reg8) (v : Byte) :
    (x.setHalf h v).getHalf k = if k = h then v else x.getHalf k := by
  by_cases hp : pairOf k = pairOf h
  · have hside : isHigh k = isHigh h ↔ k = h := ⟨half_eq_of_pairOf_isHigh hp, congrArg isHigh⟩
    rw [RegFile.getHalf_setHalf_same_pair x v hp, if_congr hside rfl rfl]
  · rw [RegFile.getHalf_setHalf_other_pair x v hp, if_neg fun hk => hp (congrArg pairOf hk)]

/-- Settles O3: a half write replaces one side of one register, and a 16-bit write both sides. -/
theorem halvesAliasTheirRegister : Obligations.HalvesAliasTheirRegister :=
  ⟨RegFile.getHalf_setHalf, fun _ _ => ⟨rfl, rfl, rfl, rfl, rfl, rfl, rfl, rfl⟩⟩

/-! ## What an effective address depends on (41_ea_calculator.md R113, 10_state.md R27) -/

theorem calcEa_snd (m : AddrMode) (ovr : SegOverride) (x : RegFile) :
    (calcEa m ovr x).map Prod.snd = (defaultKind m).map fun _ => offsetSum (modeRegs m) (dispval m) x := by
  cases m <;> rfl

theorem modeRegs_ne_segment {m : AddrMode} {q r : Reg16} (hq : q ∈ modeRegs m) (hr : r ∈ [Reg16.cs, .ds, .es, .ss]) :
    q ≠ r := by
  rintro rfl
  have hbase := modeRegs_subset m hq
  revert hbase hr
  cases q <;> decide

/-- The segment does not depend on a register that is no segment register. -/
theorem resolve_set {r : Reg16} (hr : r ∉ [Reg16.cs, .ds, .es, .ss]) (kind : SegKind) (ovr : SegOverride) (x : RegFile)
    (v : Word) : resolve kind ovr (x.set r v) = resolve kind ovr x :=
  resolve_congr kind ovr fun _ hq => RegFile.get_set_other x v fun h => hr (h ▸ hq)

/-- Settles O19: the offset sums base registers, and the segment is resolved from the base's kind and the segment registers. -/
theorem offsetAndSegmentAreIndependent : Obligations.OffsetAndSegmentAreIndependent := by
  constructor
  · intro m o1 o2 x r v hr
    have hsum : offsetSum (modeRegs m) (dispval m) (x.set r v) = offsetSum (modeRegs m) (dispval m) x :=
      offsetSum_congr _ fun q hq => RegFile.get_set_other x v (modeRegs_ne_segment hq hr)
    rw [calcEa_snd, calcEa_snd, hsum]
  · intro b d8 d16 ovr x r v hr
    simp [resolve_set hr]

/-- Settles O20: the four registers are neither segment registers nor the base of a mode. -/
theorem addressesIgnoreAxCxDxSp : Obligations.AddressesIgnoreAxCxDxSp := by
  intro m ovr x r v hr
  have hseg : ∀ q ∈ [Reg16.cs, .ds, .es, .ss], q ≠ r := by
    rintro q hq rfl
    revert hq hr
    cases q <;> decide
  have hbase : ∀ q ∈ [Reg16.bx, .bp, .si, .di], q ≠ r := by
    rintro q hq rfl
    revert hq hr
    cases q <;> decide
  exact calcEa_congr m ovr (fun q hq => RegFile.get_set_other x v (hseg q hq))
    fun q hq => RegFile.get_set_other x v (hbase q (modeRegs_subset m hq))

/-- Settles O14: the base `BP` alone has the stack segment, and a displacement of 0 adds nothing. -/
theorem eaOfBpWithoutDisplacement : Obligations.EaOfBpWithoutDisplacement := by
  intro ovr x
  have hzero : add16 (baseOffset .bp x) (sext16 0) = baseOffset .bp x := BitVec.add_zero _
  refine ⟨modeIs_plain .bp ovr x, ?_⟩
  rw [calcEa_plain, calcEa_disp8, hzero]

/-! ## The linear translator (42_linear_translator.md R151, R152) -/

/-- Settles O22: the exact sum is below 2 * 2^20, so the reduction modulo 2^20 takes 2^20 off once or not at all. -/
theorem translateWrapsAtOneMegabyte : Obligations.TranslateWrapsAtOneMegabyte := by
  intro seg off
  have hseg := seg.isLt
  have hoff := off.isLt
  rw [toNat_linearAddr]
  omega

/-- Settles O23: the exact sum of the moved pair is the old one. -/
theorem translateAliases : Obligations.TranslateAliases := by
  intro seg off k hk hoff
  have hlt := seg.isLt
  have hseg' : (seg - BitVec.ofNat 16 k).toNat = seg.toNat - k := by
    rw [BitVec.toNat_sub, BitVec.toNat_ofNat]
    omega
  have hoff' : (off + BitVec.ofNat 16 (16 * k)).toNat = off.toNat + 16 * k := by
    rw [BitVec.toNat_add, BitVec.toNat_ofNat]
    omega
  apply BitVec.eq_of_toNat_eq
  rw [toNat_linearAddr, toNat_linearAddr, hseg', hoff']
  congr 1
  omega

/-! ## The registers after a step (10_state.md R28) -/

/-- A request with a memory operand writes no register. -/
theorem effect_regs_of_memory {r : Request} {m : AddrMode} (s : State) (hm : r.operand = .addressingMode m) :
    (effect r s).regs = s.regs := by
  obtain ⟨hplain, _⟩ | ⟨_, hfatal⟩ | ⟨_, _, _, _, _, _, hmem⟩ := effect_cases r s
  · exact absurd hm (hplain m)
  · rw [hfatal, fatalEntry_regs]
  · rw [hmem, memEffect_regs]

/-- The registers a request leaves are those its register write gives. -/
theorem effect_regs (r : Request) (s : State) : (effect r s).regs = Spec.regsAfter s.regs r := by
  cases r with
  | read8 o ovr => exact effect_regs_of_read s (.inl rfl)
  | read16 o ovr => exact effect_regs_of_read s (.inr rfl)
  | write8 o ovr v =>
    cases o with
    | addressingMode m => exact effect_regs_of_memory s rfl
    | _ => rfl
  | write16 o ovr v =>
    cases o with
    | addressingMode m => exact effect_regs_of_memory s rfl
    | register16 id => cases id <;> rfl
    | _ => rfl

/-- Settles O48: of the steps only a request's register write and reset change the registers. -/
theorem registersChangeOnlyByWritesAndReset : Obligations.RegistersChangeOnlyByWritesAndReset := by
  intro s t hstep
  cases step_cases hstep with
  | wait hi => simp [hi]
  | ran w rest i hi _ hd => simp [hi, hd, effect_regs]
  | malformed w rest why hi _ hd => simp [hi, hd]
  | reset rest hi => simp [hi]
  | bus b rest hi => simp [hi]

/-! ## Runs (70_reset_and_hazards.md R288, 20_memory.md R53) -/

/-- Taking an input leaves the surroundings without reset. -/
theorem State.noReset_take {s : State} {x : Input} {rest : List Input} (hs : s.noReset = true)
    (hi : s.inputs = x :: rest) : x ≠ .reset ∧ ({ s with inputs := rest } : State).noReset = true := by
  simpa [State.noReset, hi] using hs

/-- Without reset a step leaves a halted block halted, and there is still no reset to come. -/
theorem step_of_noReset {s t : State} (hs : s.noReset = true) (hstep : step s = .next t) :
    t.noReset = true ∧ (t.halted = false → s.halted = false) := by
  cases step_cases hstep with
  | wait hi hh => exact ⟨hs, fun _ => hh⟩
  | ran w rest i hi hh =>
    refine ⟨?_, fun _ => hh⟩
    rw [State.noReset, effect_inputs]
    exact (State.noReset_take hs hi).2
  | malformed w rest why hi hh => exact ⟨(State.noReset_take hs hi).2, fun _ => hh⟩
  | reset rest hi => exact absurd rfl (State.noReset_take hs hi).1
  | bus b rest hi => exact ⟨(State.noReset_take hs hi).2, id⟩

/-- A run without reset that ends in a ready block began in one. -/
theorem ready_of_run_ready {k : Nat} {s t : State} (hs : s.noReset = true) (hrun : run k s = .next t)
    (ht : t.halted = false) : s.halted = false := by
  induction k generalizing s with
  | zero =>
    obtain rfl : s = t := by simpa using hrun
    exact ht
  | succ k ih =>
    obtain ⟨u, hstep, hrest⟩ := run_succ_eq_next hrun
    obtain ⟨hu, hready⟩ := step_of_noReset hs hstep
    exact hready (ih hu hrest)

/-- Settles O54: the run is cut step by step, and what is left of it began in a ready block. -/
theorem runsThatEndWellNeverHalted : Obligations.RunsThatEndWellNeverHalted := by
  intro j k s t hs hend
  induction j generalizing s with
  | zero =>
    rw [Nat.zero_add] at hend
    obtain ⟨hrun, ht⟩ := hend
    exact ⟨s, rfl, ready_of_run_ready hs hrun ht, hrun, ht⟩
  | succ j ih =>
    rw [Nat.succ_add] at hend
    obtain ⟨hrun, ht⟩ := hend
    obtain ⟨u, hstep, hrest⟩ := run_succ_eq_next hrun
    obtain ⟨v, hv, hcut⟩ := ih u (step_of_noReset hs hstep).1 ⟨hrest, ht⟩
    exact ⟨v, (run_succ_of_step j hstep).trans hv, hcut⟩

/-- A step adds at most one call in front of the calls made before. -/
theorem step_busTrace {s t : State} (hstep : step s = .next t) :
    ∃ calls : List BusCall, t.busTrace = calls ++ s.busTrace ∧ calls.length ≤ 1 := by
  cases step_cases hstep with
  | wait | malformed | reset | bus => exact ⟨[], rfl, Nat.zero_le 1⟩
  | ran w rest i =>
    obtain ⟨_, huntouched⟩ | ⟨a, hcall, _⟩ := effect_bus_cases i.request { s with inputs := rest }
    · exact ⟨[], huntouched, Nat.zero_le 1⟩
    · exact ⟨[Spec.callAt a i.request], hcall, Nat.le_refl 1⟩

/-- Settles O55: each step of the run adds at most one call in front. -/
theorem busSeesCallsInRequestOrder : Obligations.BusSeesCallsInRequestOrder := by
  intro k s t hrun
  induction k generalizing s with
  | zero =>
    obtain rfl : s = t := by simpa using hrun
    exact ⟨[], rfl, Nat.le_refl 0⟩
  | succ k ih =>
    obtain ⟨u, hstep, hrest⟩ := run_succ_eq_next hrun
    obtain ⟨first, hfirst, hone⟩ := step_busTrace hstep
    obtain ⟨later, hlater, hk⟩ := ih u hrest
    refine ⟨later ++ first, ?_, ?_⟩
    · rw [hlater, hfirst, List.append_assoc]
    · rw [List.length_append]
      omega

end Sys2Proof.Machine

namespace Sys2Proof.Machine

/-! ## Nothing else reaches an outcome (10_state.md R20, R33, R34) -/

/-- Two next states that agree on all a request's outcome is: registers, latch, bus, response, the calls added, and the record
after a fatal. -/
structure SameOutcome (s₁ s₂ t₁ t₂ : State) : Prop where
  regs : t₂.regs = t₁.regs
  halted : t₂.halted = t₁.halted
  bus : t₂.bus = t₁.bus
  response : t₂.response = t₁.response
  diag : t₁.halted = true → t₂.diag = t₁.diag
  busTrace : ∃ new, t₁.busTrace = new ++ s₁.busTrace ∧ t₂.busTrace = new ++ s₂.busTrace

section
variable {s₁ s₂ : State} (hregs : s₁.regs = s₂.regs) (h₁ : s₁.halted = false) (h₂ : s₂.halted = false)
  (hbus : s₁.bus = s₂.bus)
include hregs h₁ h₂ hbus

/-- One register update and one response give one outcome. -/
theorem SameOutcome.of_respond (f : RegFile → RegFile) (p : RegFile → Response) :
    SameOutcome s₁ s₂ ({ s₁ with regs := f s₁.regs }.respond (p s₁.regs))
      ({ s₂ with regs := f s₂.regs }.respond (p s₂.regs)) where
  regs := congrArg f hregs.symm
  halted := h₂.trans h₁.symm
  bus := hbus.symm
  response := by simp [hregs]
  diag hh := absurd (hh.symm.trans h₁) Bool.noConfusion
  busTrace := ⟨[], rfl, rfl⟩

omit h₁ h₂ in
theorem SameOutcome.of_fatalEntry (c : Cause) (w : ReqWord) :
    SameOutcome s₁ s₂ (fatalEntry c w s₁) (fatalEntry c w s₂) where
  regs := hregs.symm
  halted := rfl
  bus := hbus.symm
  response := rfl
  diag _ := rfl
  busTrace := ⟨[], rfl, rfl⟩

omit hregs h₁ h₂ in
/-- The response to the access is the bus's answer. -/
theorem memEffect_response_congr (r : Request) (a : Addr) :
    (memEffect r a s₂).response = (memEffect r a s₁).response := by
  cases r <;> simp only [memEffect, memRead8, memRead16, memWrite8, memWrite16, State.respond_response, hbus]

theorem SameOutcome.of_memEffect (r : Request) (a : Addr) :
    SameOutcome s₁ s₂ (memEffect r a s₁) (memEffect r a s₂) where
  regs := by simp [hregs]
  halted := by simp [h₁, h₂]
  bus := by simp [hbus]
  response := memEffect_response_congr hbus r a
  diag hh := by simp [h₁] at hh
  busTrace := ⟨[Spec.callAt a r], memEffect_busTrace .., memEffect_busTrace ..⟩

/-- A request's effect looks at the registers and the bus only. -/
theorem effect_sameOutcome (r : Request) : SameOutcome s₁ s₂ (effect r s₁) (effect r s₂) := by
  have hanswer (p : RegFile → Response) :
      SameOutcome s₁ s₂ (s₁.respond (p s₁.regs)) (s₂.respond (p s₂.regs)) := .of_respond hregs h₁ h₂ hbus id p
  have hmode (m : AddrMode) (hm : r.operand = .addressingMode m) : SameOutcome s₁ s₂ (effect r s₁) (effect r s₂) := by
    by_cases hdirect : m = .registerMode
    · subst hdirect
      rw [effect_registerMode hm, effect_registerMode hm]
      exact .of_fatalEntry hregs hbus _ _
    · obtain ⟨seg, off, hea⟩ := calcEa_memory hdirect r.override s₁.regs
      rw [effect_memory hm hea, effect_memory hm (hregs ▸ hea)]
      exact .of_memEffect hregs h₁ h₂ hbus r _
  cases r with
  | read8 o ovr =>
    cases o with
    | addressingMode m => exact hmode m rfl
    | register8 id => exact hanswer fun x => Response.okRead8 (x.getHalf id) none
    | immediate8 v | relative8 v => exact hanswer fun _ => Response.okRead8 v none
    | _ => exact hanswer fun _ => Response.notApplicable
  | read16 o ovr =>
    cases o with
    | addressingMode m => exact hmode m rfl
    | register16 id =>
      cases id with
      | reg q => exact hanswer fun x => Response.okRead16 (x.get q) none
      | bad n => exact .of_fatalEntry hregs hbus _ _
    | immediate16 v | relative16 v => exact hanswer fun _ => Response.okRead16 v none
    | _ => exact hanswer fun _ => Response.notApplicable
  | write8 o ovr v =>
    cases o with
    | addressingMode m => exact hmode m rfl
    | register8 id => exact .of_respond hregs h₁ h₂ hbus (·.setHalf id v) fun _ => Response.okWrite none
    | _ => exact hanswer fun _ => Response.notApplicable
  | write16 o ovr v =>
    cases o with
    | addressingMode m => exact hmode m rfl
    | register16 id =>
      cases id with
      | reg q => exact .of_respond hregs h₁ h₂ hbus (·.set q v) fun _ => Response.okWrite none
      | bad n => exact .of_fatalEntry hregs hbus _ _
    | _ => exact hanswer fun _ => Response.notApplicable

end

/-- Settles O56: both blocks are ready, and the effect of the request looks at the registers and the bus only. -/
theorem onlyBlockAndBusReachTheOutcome : Obligations.OnlyBlockAndBusReachTheOutcome := by
  intro i s₁ s₂ t₁ hregs hhalted hbus h
  obtain ⟨h₁, rfl⟩ := exec_eq_next h
  have h₂ : s₂.halted = false := hhalted.symm.trans h₁
  have hsame := effect_sameOutcome hregs h₁ h₂ hbus i.request
  obtain ⟨new, htrace⟩ := hsame.busTrace
  exact ⟨_, new, exec_ready h₂ i, hsame.regs, hsame.halted, hsame.bus, hsame.response, hsame.diag, htrace⟩

/-! ## The reference bus (20_memory.md R50) -/

@[simp] theorem RefBus.mapped_storeByte (b : RefBus) (a c : Addr) (v : Byte) :
    (b.storeByte a v).mapped c = b.mapped c := rfl

/-- The reference bus after a word is stored, low byte first. -/
def RefBus.storeWord (b : RefBus) (a : Addr) (v : Word) : RefBus :=
  (b.storeByte a (v.extractLsb' 0 8)).storeByte (nextAddr a) (v.extractLsb' 8 8)

@[simp] theorem RefBus.wordMapped_storeWord (b : RefBus) (a c : Addr) (v : Word) :
    (b.storeWord a v).wordMapped c = b.wordMapped c := rfl

theorem RefBus.mapped_of_wordMapped {b : RefBus} {a : Addr} (h : b.wordMapped a = true) : b.mapped a = true :=
  (Bool.and_eq_true_iff.1 h).1

section
variable {b : RefBus} {a : Addr}

theorem RefBus.readU8_mapped (h : b.mapped a = true) : b.readU8 a = .ok (b.byteAt a) Config.refCost := if_pos h

theorem RefBus.readU16_mapped (h : b.wordMapped a = true) :
    b.readU16 a = .ok (b.byteAt (nextAddr a) ++ b.byteAt a) Config.refCost := if_pos h

theorem RefBus.writeU8_mapped (h : b.mapped a = true) (v : Byte) :
    b.writeU8 a v = (.ok () Config.refCost, b.storeByte a v) := if_pos h

theorem RefBus.writeU16_mapped (h : b.wordMapped a = true) (v : Word) :
    b.writeU16 a v = (.ok () Config.refCost, b.storeWord a v) := if_pos h

end

section
variable {b : RefBus} (hwf : b.mem.wf = true) (a : Addr)
include hwf

theorem RefBus.byteAt_storeByte_self (v : Byte) : (b.storeByte a v).byteAt a = v := by
  rw [RefBus.byteAt_storeByte hwf, if_pos rfl]

theorem RefBus.byteAt_storeByte_other {c : Addr} (v : Byte) (hc : c ≠ a) : (b.storeByte a v).byteAt c = b.byteAt c := by
  rw [RefBus.byteAt_storeByte hwf, if_neg hc]

/-- After a word is stored its high byte lies at the next address. -/
theorem RefBus.byteAt_storeWord_next (v : Word) : (b.storeWord a v).byteAt (nextAddr a) = v.extractLsb' 8 8 :=
  RefBus.byteAt_storeByte_self (RefBus.wf_storeByte hwf a _) _ _

theorem RefBus.byteAt_storeWord_of_ne_next {c : Addr} (v : Word) (hc : c ≠ nextAddr a) :
    (b.storeWord a v).byteAt c = (b.storeByte a (v.extractLsb' 0 8)).byteAt c :=
  RefBus.byteAt_storeByte_other (RefBus.wf_storeByte hwf a _) _ _ hc

/-- After a word is stored its low byte lies at the address. -/
theorem RefBus.byteAt_storeWord_self (v : Word) : (b.storeWord a v).byteAt a = v.extractLsb' 0 8 := by
  rw [RefBus.byteAt_storeWord_of_ne_next hwf a v (nextAddr_ne a).symm, RefBus.byteAt_storeByte_self hwf]

theorem RefBus.byteAt_storeWord_other {c : Addr} (v : Word) (hc : c ≠ a) (hc' : c ≠ nextAddr a) :
    (b.storeWord a v).byteAt c = b.byteAt c := by
  rw [RefBus.byteAt_storeWord_of_ne_next hwf a v hc', RefBus.byteAt_storeByte_other hwf a _ hc]

end

/-! ## Memory requests on the reference bus -/

/-- A ready block completes a request at an effective address with its one access there. -/
theorem exec_at_address {r : Request} {m : AddrMode} {s : State} {seg off : Word} (hh : s.halted = false)
    (hm : r.operand = .addressingMode m) (hea : calcEa m r.override s.regs = some (seg, off)) :
    exec (Instr.ofRequest r) s = .next (memEffect r (linearAddr seg off) s) := by
  rw [exec_ready hh, Instr.request_ofRequest, effect_memory hm hea]

section
variable {s : State} {b : RefBus} {a : Addr} (hb : s.bus = .ref b)
include hb

theorem memRead8_ref (h : b.mapped a = true) :
    (memRead8 a s).response = some (Spec.okResponse ((b.byteAt a).setWidth 16) (some Config.refCost)) := by
  rw [memRead8, hb, Bus.readU8, RefBus.readU8_mapped h]
  rfl

theorem memRead16_ref (h : b.wordMapped a = true) :
    (memRead16 a s).response =
      some (Spec.okResponse (b.byteAt (nextAddr a) ++ b.byteAt a) (some Config.refCost)) := by
  rw [memRead16, hb, Bus.readU16, RefBus.readU16_mapped h]
  rfl

theorem memWrite8_ref (h : b.mapped a = true) (v : Byte) : (memWrite8 v a s).bus = .ref (b.storeByte a v) := by
  rw [memWrite8, hb, Bus.writeU8, RefBus.writeU8_mapped h]
  rfl

theorem memWrite16_ref (h : b.wordMapped a = true) (v : Word) : (memWrite16 v a s).bus = .ref (b.storeWord a v) := by
  rw [memWrite16, hb, Bus.writeU16, RefBus.writeU16_mapped h]
  rfl

end

/-- Settles O57: the store leaves the byte at the address, where the mapping and the effective address still point. -/
theorem refBusByteReadsBack : Obligations.RefBusByteReadsBack := by
  intro s b m ovr seg off v hh hb hwf hea hmapped
  refine ⟨_, _, exec_at_address hh rfl hea, exec_at_address hh rfl hea, ?_⟩
  have hread := memRead8_ref (memWrite8_ref hb hmapped v) ((RefBus.mapped_storeByte ..).trans hmapped)
  rwa [RefBus.byteAt_storeByte_self hwf] at hread

/-- Settles O58: the store leaves the low byte at the address and the high byte at the next one. -/
theorem refBusWordReadsBack : Obligations.RefBusWordReadsBack := by
  intro s b m ovr seg off v hh hb hwf hea hmapped
  have hstored := memWrite16_ref hb hmapped v
  have hmapped' : (b.storeWord (linearAddr seg off) v).wordMapped (linearAddr seg off) = true :=
    (RefBus.wordMapped_storeWord ..).trans hmapped
  refine ⟨_, _, _, exec_at_address hh rfl hea, exec_at_address hh rfl hea, ?_, exec_at_address hh rfl hea, ?_⟩
  · have hread := memRead16_ref hstored hmapped'
    rwa [RefBus.byteAt_storeWord_next hwf, RefBus.byteAt_storeWord_self hwf, append_extract (m := 8) (n := 8) v] at hread
  · have hread := memRead8_ref hstored (RefBus.mapped_of_wordMapped hmapped')
    rwa [RefBus.byteAt_storeWord_self hwf] at hread

/-- Settles O59: the one store of a write is at the translated effective address. -/
theorem refBusStoreFrame : Obligations.RefBusStoreFrame := by
  intro s b m ovr seg off hh hb hwf hea
  constructor
  · intro v hmapped
    exact ⟨_, _, exec_at_address hh rfl hea, memWrite8_ref hb hmapped v, rfl, RefBus.byteAt_storeByte_self hwf _ v,
      fun _ ha => RefBus.byteAt_storeByte_other hwf _ v ha⟩
  · intro v hmapped
    exact ⟨_, _, exec_at_address hh rfl hea, memWrite16_ref hb hmapped v, rfl, RefBus.byteAt_storeWord_self hwf _ v,
      RefBus.byteAt_storeWord_next hwf _ v, fun _ ha ha' => RefBus.byteAt_storeWord_other hwf _ v ha ha'⟩

end Sys2Proof.Machine

namespace Sys2Proof.Machine

/-! ## Failures on the reference bus (20_memory.md R50, decision D16) -/

/-- Whether the reference bus serves the one call of a request at an address; `serves_eq_false_iff` ties it to the bytes touched. -/
def RefBus.serves (b : RefBus) (a : Addr) : Request → Bool
  | .read8 _ _ | .write8 _ _ _ => b.mapped a
  | .read16 _ _ | .write16 _ _ _ => b.wordMapped a

theorem RefBus.serves_eq_false_iff (b : RefBus) (a : Addr) (r : Request) :
    b.serves a r = false ↔ ∃ c ∈ Spec.touched a r, b.mapped c = false := by
  cases r with
  | read8 | write8 => simp [RefBus.serves, Spec.touched]
  | read16 | write16 =>
    simp [-Bool.and_eq_false_imp, RefBus.serves, Spec.touched, RefBus.wordMapped, nextAddr, Bool.and_eq_false_iff]

/-- The one error of the reference bus. -/
theorem errorOf_ref (b : RefBus) (a : Addr) (r : Request) :
    Spec.errorOf (.ref b) (Spec.callAt a r) = if b.serves a r then none else some Config.unmapped := by
  cases r with
  | read8 => cases h : b.mapped a <;> simp [Spec.errorOf, Spec.callAt, RefBus.serves, Bus.readU8, RefBus.readU8, h]
  | read16 =>
    cases h : b.wordMapped a <;> simp [Spec.errorOf, Spec.callAt, RefBus.serves, Bus.readU16, RefBus.readU16, h]
  | write8 => cases h : b.mapped a <;> simp [Spec.errorOf, Spec.callAt, RefBus.serves, Bus.writeU8, RefBus.writeU8, h]
  | write16 =>
    cases h : b.wordMapped a <;> simp [Spec.errorOf, Spec.callAt, RefBus.serves, Bus.writeU16, RefBus.writeU16, h]

/-- A call the reference bus does not serve leaves it. -/
theorem busAfter_ref_of_not_serves {b : RefBus} {a : Addr} {r : Request} (h : b.serves a r = false) :
    Spec.busAfter (.ref b) (Spec.callAt a r) = .ref b := by
  cases r with
  | read8 | read16 => rfl
  | write8 | write16 =>
    simp only [RefBus.serves] at h
    simp [Spec.busAfter, Spec.callAt, Bus.writeU8, RefBus.writeU8, Bus.writeU16, RefBus.writeU16, h]

/-- A read leaves the reference bus. -/
theorem busAfter_ref_of_read {r : Request} {o : Operand} {ovr : SegOverride} (hr : r = .read8 o ovr ∨ r = .read16 o ovr)
    (b : RefBus) (a : Addr) : Spec.busAfter (.ref b) (Spec.callAt a r) = .ref b := by
  obtain rfl | rfl := hr <;> rfl

/-- A call that fails on the reference bus was not served, and the error is `UNMAPPED`. -/
theorem errorOf_ref_eq_some {b : RefBus} {a : Addr} {r : Request} {e : BusError}
    (h : Spec.errorOf (.ref b) (Spec.callAt a r) = some e) : b.serves a r = false ∧ e = Config.unmapped := by
  rw [errorOf_ref] at h
  split at h
  · cases h
  · next hserves => exact ⟨by simpa using hserves, (Option.some.inj h).symm⟩

theorem errorOf_ref_eq_none {b : RefBus} {a : Addr} {r : Request}
    (h : Spec.errorOf (.ref b) (Spec.callAt a r) = none) : b.serves a r = true := by
  rw [errorOf_ref] at h
  split at h
  · assumption
  · cases h

@[simp] theorem afterCall_bus (s : State) (c : BusCall) (b : Bus) (p : Response) :
    (Spec.afterCall s c b p).bus = b := rfl

/-- On the reference bus a read leaves the bus however it completes. -/
theorem Completion.bus_of_read {r : Request} {s t : State} {b : RefBus} (h : Completion r s t) (hb : s.bus = .ref b)
    {o : Operand} {ovr : SegOverride} (hr : r = .read8 o ovr ∨ r = .read16 o ovr) : t.bus = s.bus := by
  cases h with
  | fatal | notApplicable | direct => rfl
  | access a | busError a =>
    rw [afterCall_bus, hb, busAfter_ref_of_read hr]

/-- On the reference bus an error is `UNMAPPED` and leaves the bus. -/
theorem Completion.error_on_ref {r : Request} {s t : State} {b : RefBus} (h : Completion r s t) (hb : s.bus = .ref b)
    {p : Response} {e : BusError} (hp : t.response = some p) (he : p.err = some e) :
    e = Config.unmapped ∧ t.bus = s.bus := by
  cases h with
  | fatal | notApplicable | direct | access =>
    obtain rfl := Option.some.inj hp
    cases he
  | busError a e' _ _ herr =>
    obtain rfl := Option.some.inj hp
    obtain rfl := Option.some.inj he
    rw [hb] at herr
    obtain ⟨hserves, rfl⟩ := errorOf_ref_eq_some herr
    refine ⟨rfl, ?_⟩
    rw [afterCall_bus, hb, busAfter_ref_of_not_serves hserves]

/-- On the reference bus a request that reaches an address ends `BUS_ERROR` exactly when its call is not served. -/
theorem Completion.busError_iff_on_ref {r : Request} {s t : State} {b : RefBus} (h : Completion r s t)
    (hb : s.bus = .ref b) {a : Addr} {p : Response} (ha : Spec.reaches r s.regs = some a) (hp : t.response = some p) :
    p.status = .busError ↔ b.serves a r = false := by
  cases h with
  | fatal _ _ hreach | notApplicable hreach | direct _ _ hreach => simp [ha] at hreach
  | access a' _ _ hreach _ herr =>
    obtain rfl := Option.some.inj (ha.symm.trans hreach)
    obtain rfl := Option.some.inj hp
    rw [hb] at herr
    exact iff_of_false Status.noConfusion (ne_false_of_eq_true (errorOf_ref_eq_none herr))
  | busError a' _ hreach _ herr =>
    obtain rfl := Option.some.inj (ha.symm.trans hreach)
    obtain rfl := Option.some.inj hp
    rw [hb] at herr
    exact iff_of_true rfl (errorOf_ref_eq_some herr).1

/-- Settles O60: the reference bus serves a call exactly when every byte touched is mapped, and changes only where it serves a
write. -/
theorem refBusReadsAndFailuresChangeNothing : Obligations.RefBusReadsAndFailuresChangeNothing := by
  intro i s t b hb h
  have hc := exec_completion h
  refine ⟨fun ⟨_, _, hr⟩ => hc.bus_of_read hb hr, fun _ _ => hc.error_on_ref hb, fun a _ ha hp => ?_⟩
  rw [hc.busError_iff_on_ref hb ha hp, RefBus.serves_eq_false_iff]

/-! ## Memory operands (43_operand_read.md R169, R184; 44_operand_write.md R209, R224) -/

/-- In a ready block an instruction with a memory operand makes its one access at the translated effective address, and its word
has its request's fields. -/
theorem exec_memory_encoded {i : Instr} {m : AddrMode} {s : State} (hh : s.halted = false)
    (hm : i.request.operand = .addressingMode m) (hne : m ≠ .registerMode) :
    (∃ seg off, calcEa m i.request.override s.regs = some (seg, off) ∧
      exec i s = .next (memEffect i.request (linearAddr seg off) s)) ∧
    Spec.Encoded i i.request.opCode 8 (Operand.addressingMode m).payload i.request.wdata := by
  obtain ⟨seg, off, hea⟩ := calcEa_memory hne i.request.override s.regs
  have hencoded := encoded_of_payload (i := i) rfl
  rw [hm] at hencoded
  exact ⟨⟨seg, off, hea, by rw [exec_ready hh, effect_memory hm hea]⟩, hencoded⟩

/-- In a ready block an instruction with the register-direct mode is fatal before any bus call. -/
theorem exec_registerMode_encoded {i : Instr} {s : State} (hh : s.halted = false)
    (hm : i.request.operand = .addressingMode .registerMode) :
    ∃ t, exec i s = .next t ∧ t.response = some (Spec.fatalResponse .registerModeEa (encode i)) ∧
      t.regs = s.regs ∧ t.bus = s.bus ∧ t.busTrace = s.busTrace ∧
      Spec.Encoded i i.request.opCode 8 (0x00190000#32) i.request.wdata := by
  have hencoded := encoded_of_payload (i := i) rfl
  rw [hm] at hencoded
  exact ⟨_, (exec_ready hh i).trans (congrArg _ (effect_registerMode hm)), rfl, rfl, rfl, rfl, hencoded⟩

/-- In a list of forms whose requests are `req` of their modes, each form is one, if no mode is the register-direct one. -/
theorem request_of_mem_forms (req : AddrMode → Request) {forms : List (Instr × AddrMode)}
    (hreq : forms.map (·.1.request) = forms.map (req ·.2)) (hmodes : forms.all (·.2 ≠ .registerMode) = true)
    {form : Instr × AddrMode} (hform : form ∈ forms) : form.1.request = req form.2 ∧ form.2 ≠ .registerMode :=
  ⟨List.map_inj_left.1 hreq form hform, of_decide_eq_true (List.all_eq_true.1 hmodes form hform)⟩

/-! The memory primitives are the accesses the rules describe. -/

theorem memRead8_eq_afterRead8 (a : Addr) (s : State) : memRead8 a s = Spec.afterRead8 s a := by
  unfold memRead8 Spec.afterRead8
  cases (s.bus.readU8 a).1 <;> rfl

theorem memRead16_eq_afterRead16 (a : Addr) (s : State) : memRead16 a s = Spec.afterRead16 s a := by
  unfold memRead16 Spec.afterRead16
  cases (s.bus.readU16 a).1 <;> rfl

theorem memWrite8_eq_afterWrite8 (v : Byte) (a : Addr) (s : State) : memWrite8 v a s = Spec.afterWrite8 s a v := by
  unfold memWrite8 Spec.afterWrite8
  cases (s.bus.writeU8 a v).1 <;> rfl

theorem memWrite16_eq_afterWrite16 (v : Word) (a : Addr) (s : State) : memWrite16 v a s = Spec.afterWrite16 s a v := by
  unfold memWrite16 Spec.afterWrite16
  cases (s.bus.writeU16 a v).1 <;> rfl

/-- Settles O26: each of the 25 forms is a `read8` at its mode's effective address, and the register-direct one has none. -/
theorem read8Memory : Obligations.Read8Memory := by
  intro s ovr d8 d16 hh
  refine ⟨fun form hform => ?_, exec_registerMode_encoded hh rfl⟩
  obtain ⟨hr, hne⟩ := request_of_mem_forms (fun m => .read8 (.addressingMode m) ovr) rfl rfl hform
  simpa [hr, memEffect, memRead8_eq_afterRead8, Request.override, Request.opCode, Request.wdata] using
    exec_memory_encoded hh (congrArg Request.operand hr) hne

/-- Settles O29: each of the 25 forms is a `read16` at its mode's effective address, and the register-direct one has none. -/
theorem read16Memory : Obligations.Read16Memory := by
  intro s ovr d8 d16 hh
  refine ⟨fun form hform => ?_, exec_registerMode_encoded hh rfl⟩
  obtain ⟨hr, hne⟩ := request_of_mem_forms (fun m => .read16 (.addressingMode m) ovr) rfl rfl hform
  simpa [hr, memEffect, memRead16_eq_afterRead16, Request.override, Request.opCode, Request.wdata] using
    exec_memory_encoded hh (congrArg Request.operand hr) hne

/-- Settles O32: each of the 25 forms is a `write8` at its mode's effective address, and the register-direct one has none. -/
theorem write8Memory : Obligations.Write8Memory := by
  intro s ovr d8 d16 v hh
  have hdata : 0#8 ++ v = v.setWidth 16 := zero_append_eq_setWidth v
  rw [← hdata]
  refine ⟨fun form hform => ?_, exec_registerMode_encoded hh rfl⟩
  obtain ⟨hr, hne⟩ := request_of_mem_forms (fun m => .write8 (.addressingMode m) ovr v) rfl rfl hform
  simpa [hr, memEffect, memWrite8_eq_afterWrite8, Request.override, Request.opCode, Request.wdata] using
    exec_memory_encoded hh (congrArg Request.operand hr) hne

/-- Settles O35: each of the 25 forms is a `write16` at its mode's effective address, and the register-direct one has none. -/
theorem write16Memory : Obligations.Write16Memory := by
  intro s ovr d8 d16 v hh
  refine ⟨fun form hform => ?_, exec_registerMode_encoded hh rfl⟩
  obtain ⟨hr, hne⟩ := request_of_mem_forms (fun m => .write16 (.addressingMode m) ovr v) rfl rfl hform
  simpa [hr, memEffect, memWrite16_eq_afterWrite16, Request.override, Request.opCode, Request.wdata] using
    exec_memory_encoded hh (congrArg Request.operand hr) hne

end Sys2Proof.Machine

namespace Sys2Proof

/-! ## Which words decode (30_encoding.md R75) -/

section
variable {α β : Type}

theorem Decoded.exists_malformed_iff {x : Decoded α} : (∃ why, x = .malformed why) ↔ ¬ ∃ a, x = .ok a := by
  cases x <;> simp

/-- A decoding that goes on succeeds when each part does. -/
theorem Decoded.exists_bind_eq_ok {x : Decoded α} {f : α → Decoded β} :
    (∃ y, x.bind f = .ok y) ↔ ∃ a, x = .ok a ∧ ∃ y, f a = .ok y := by
  cases x <;> simp [Decoded.bind]

theorem exists_requireZero_eq_ok {n : Nat} {bits : BitVec n} {why : Malformed} {x : α} :
    (∃ y, requireZero bits why x = .ok y) ↔ bits = 0 :=
  ⟨fun ⟨_, h⟩ => (requireZero_eq_ok h).1, fun h => ⟨x, if_pos h⟩⟩

/-- Bits that must be zero, and then a decoding that does not depend on them. -/
theorem exists_requireZero_bind_eq_ok {n : Nat} {bits : BitVec n} {why : Malformed} {x : Decoded α} :
    (∃ y, ((requireZero bits why ()).bind fun _ => x) = .ok y) ↔ bits = 0 ∧ ∃ y, x = .ok y := by
  rw [Decoded.exists_bind_eq_ok, ← exists_requireZero_eq_ok (why := why) (x := ()), exists_and_right]

end

theorem eq_ofNat_of_toNat_eq {n a : Nat} {x : BitVec n} (h : x.toNat = a) : x = BitVec.ofNat n a := by
  rw [← h, BitVec.ofNat_toNat, BitVec.setWidth_eq]

/-! The exclusions of R75 part by part, in the order of the decoder; `malformedWord_iff` ties them to its whole list. -/

/-- The mode codes and displacement fields that R72 and R73 exclude. -/
def modeMalformed (c : BitVec 5) (d : Word) : Prop :=
  26 ≤ c.toNat ∨ ((c.toNat ≤ 7 ∨ c.toNat = 25) ∧ d ≠ 0) ∨ (8 ≤ c.toNat ∧ c.toNat ≤ 15 ∧ d.extractLsb' 8 8 ≠ 0)

/-- The kinds and payloads that R68, R69, R72 and R73 exclude. -/
def payloadMalformed (k : BitVec 4) (p : BitVec 32) : Prop :=
  13 ≤ k.toNat ∨ ((k = 0 ∨ k = 2) ∧ p.extractLsb' 8 24 ≠ 0) ∨
    ((k = 1 ∨ k = 3 ∨ k = 4 ∨ k = 5 ∨ k = 9) ∧ p.extractLsb' 16 16 ≠ 0) ∨
    (k = 6 ∧ p.extractLsb' 3 29 ≠ 0) ∨ (k = 7 ∧ p.extractLsb' 4 28 ≠ 0) ∨ ((k = 11 ∨ k = 12) ∧ p ≠ 0) ∨
    (k = 8 ∧ (p.extractLsb' 21 11 ≠ 0 ∨ modeMalformed (p.extractLsb' 16 5) (p.extractLsb' 0 16)))

/-- The write data that R74 excludes. -/
def wdataMalformed (op : BitVec 2) (wd : Word) : Prop :=
  ((op = 0 ∨ op = 1) ∧ wd ≠ 0) ∨ (op = 2 ∧ wd.extractLsb' 8 8 ≠ 0)

theorem malformedWord_iff (w : ReqWord) :
    Spec.malformedWord w ↔ 5 ≤ (ovrField w).toNat ∨ mbzField w ≠ 0 ∨
      payloadMalformed (kindField w) (payloadField w) ∨ wdataMalformed (opField w) (wdataField w) := by
  have hlow : ((payloadField w).extractLsb' 0 16).extractLsb' 8 8 = (payloadField w).extractLsb' 8 8 := by
    ext i hi
    simp
  simp only [Spec.malformedWord, payloadMalformed, modeMalformed, wdataMalformed, hlow, or_assoc]
  rw [or_left_comm (a := 13 ≤ (kindField w).toNat) (b := mbzField w ≠ 0)]

theorem SegOverride.ofCode_eq_none_iff : ∀ c : BitVec 3, SegOverride.ofCode c = Option.none ↔ 5 ≤ c.toNat := by decide

theorem AddrMode.exists_ofCode_eq_ok (c : BitVec 5) (d : Word) :
    (∃ m, AddrMode.ofCode c d = .ok m) ↔ ¬ modeMalformed c d := by
  have hform : (c.extractLsb' 3 2).toNat = c.toNat / 8 := by revert c; decide
  have hbase : (c.extractLsb' 0 3).toNat = c.toNat % 8 := by revert c; decide
  have hlt := c.isLt
  unfold AddrMode.ofCode modeMalformed
  rw [hform, hbase]
  split
  · rw [exists_requireZero_eq_ok]
    grind
  · rw [exists_requireZero_eq_ok]
    grind
  · grind
  · split
    · grind
    · rw [exists_requireZero_eq_ok]
      grind
    · grind

theorem Operand.exists_ofPayload_eq_ok (k : BitVec 4) (p : BitVec 32) :
    (∃ o, Operand.ofPayload k p = .ok o) ↔ ¬ payloadMalformed k p := by
  unfold Operand.ofPayload
  split
  case h_9 hk =>
    obtain rfl := eq_ofNat_of_toNat_eq hk
    rw [exists_requireZero_bind_eq_ok, Decoded.exists_bind_eq_ok]
    simp [payloadMalformed, ← AddrMode.exists_ofCode_eq_ok]
  case h_11 hk =>
    obtain rfl := eq_ofNat_of_toNat_eq hk
    simp [payloadMalformed]
  case h_14 =>
    have hreserved : 13 ≤ k.toNat := by grind
    simp [payloadMalformed, hreserved]
  all_goals
    next hk =>
    obtain rfl := eq_ofNat_of_toNat_eq hk
    rw [exists_requireZero_eq_ok]
    simp [payloadMalformed]

theorem Request.exists_ofFields_eq_ok (op : BitVec 2) (o : Operand) (ovr : SegOverride) (wd : Word) :
    (∃ r, Request.ofFields op o ovr wd = .ok r) ↔ ¬ wdataMalformed op wd := by
  have hlt := op.isLt
  unfold Request.ofFields
  split
  case h_4 =>
    have hop : op.toNat = 3 := by grind
    obtain rfl := eq_ofNat_of_toNat_eq hop
    simp [wdataMalformed]
  all_goals
    next hop =>
    obtain rfl := eq_ofNat_of_toNat_eq hop
    rw [exists_requireZero_eq_ok]
    simp [wdataMalformed]

theorem exists_decodeRequest_eq_ok (w : ReqWord) : (∃ r, decodeRequest w = .ok r) ↔ ¬ Spec.malformedWord w := by
  have hovr := SegOverride.ofCode_eq_none_iff (ovrField w)
  rw [malformedWord_iff, ← hovr]
  unfold decodeRequest
  split
  · next hnone => simp [hnone]
  · next ovr hsome =>
    rw [exists_requireZero_bind_eq_ok, Decoded.exists_bind_eq_ok]
    simp [hsome, Request.exists_ofFields_eq_ok, ← Operand.exists_ofPayload_eq_ok]

/-- Settles O7: the decoder takes the fields in turn, and each part succeeds exactly outside R75's exclusions for it. -/
theorem malformedExactlyWhenR75Says : Obligations.MalformedExactlyWhenR75Says := by
  intro w
  have hok : (∃ i, decode w = .ok i) ↔ ¬ Spec.malformedWord w := by
    rw [← exists_decodeRequest_eq_ok, decode, Decoded.exists_bind_eq_ok]
    simp
  exact ⟨by rw [Decoded.exists_malformed_iff, hok, not_not], hok⟩

end Sys2Proof

namespace Sys2Proof.Machine

/-! ## Single words and steps (30_encoding.md R65 to R74, 60_exceptions.md R243 to R250) -/

/-- Settles O8: each word is the encoding of its instruction, which decodes. -/
theorem writtenOutWordsDecode : Obligations.WrittenOutWordsDecode :=
  ⟨decode_encode (i := .read8Register8 .al .none) rfl, decode_encode (i := .read16BpDisp8 4 .none) rfl,
    decode_encode (i := .write8BxSi .es 0x41) rfl, decode_encode (i := .write16Register16 (.reg .ds) .none 0x3000) rfl,
    decode_encode (i := .write16FarAddress 0xFFFF 0xFFFF .ds 0xFFFF) rfl,
    decode_encode (i := .read16Register16 (.bad 13) .none) rfl⟩

/-- Settles O9: a word that decodes is served by its instruction. -/
theorem stepRunsTheDecodedRequest : Obligations.StepRunsTheDecodedRequest := fun _ _ _ _ => step_of_decode

theorem serveRequest_of_malformed {s : State} {w : ReqWord} {why : Malformed} (hh : s.halted = false)
    (hd : decode w = .malformed why) : serveRequest w s = .next (fatalEntry .malformedRequest w s) := by
  simp [serveRequest, hh, hd]

theorem serveRequest_halted {s : State} (hh : s.halted = true) (w : ReqWord) : serveRequest w s = .fault .halted :=
  if_pos hh

/-! What a step does with each input. -/

theorem step_request {s : State} {w : ReqWord} {rest : List Input} (hi : s.inputs = .request w :: rest) :
    step s = serveRequest w { s with inputs := rest } := by
  rw [step, serveNext, hi]

theorem step_reset {s : State} {rest : List Input} (hi : s.inputs = .reset :: rest) :
    step s = .next (applyReset { s with inputs := rest }) := by
  rw [step, serveNext, hi]

theorem step_bus {s : State} {b : Bus} {rest : List Input} (hi : s.inputs = .bus b :: rest) :
    step s = .next { s with bus := b, inputs := rest } := by
  rw [step, serveNext, hi]

theorem step_idle {s : State} (hi : s.inputs = []) : step s = accept s s := by
  rw [step, serveNext, hi, idle]

/-- Settles O10: a malformed word is served by the fatal entry with its own cause and word. -/
theorem malformedWordIsFatal : Obligations.MalformedWordIsFatal := by
  intro s w rest why hh hi hd
  exact (step_request hi).trans (serveRequest_of_malformed (s := { s with inputs := rest }) hh hd)

/-- Settles O47: a halted block serves no request and does not wait; the other inputs do not ask for a ready one. -/
theorem haltedBlockAcceptsNothing : Obligations.HaltedBlockAcceptsNothing := fun s hh =>
  ⟨exec_halted hh,
    fun w rest hi => (step_request hi).trans (serveRequest_halted (s := { s with inputs := rest }) hh w),
    fun hi => (step_idle hi).trans (accept_halted hh _), fun _ _ hi => step_bus hi,
    fun _ hi => ⟨_, step_reset hi, applyReset_halted _⟩⟩

/-- Settles O50: each input that is no request has its own effect, and without one a ready block waits. -/
theorem stepsWithoutARequest : Obligations.StepsWithoutARequest := fun _ _ =>
  ⟨step_reset, fun _ hi => step_bus hi, fun hi hh => (step_idle hi).trans (accept_ready hh _)⟩

/-- A reset state's memory is canonical when that of its buses is. -/
theorem State.resetWith_memoryCanonical {r : RegFile} {b : Bus} {ins : List Input} (hb : b.wf = true)
    (hins : ins.all Input.wf = true) : (State.resetWith r b ins).memoryCanonical = true :=
  (State.memoryCanonical_iff _).2 ⟨hb, hins⟩

theorem State.resetWith_haltRecorded (r : RegFile) (b : Bus) (ins : List Input) :
    (State.resetWith r b ins).haltRecorded = true := rfl

/-- Settles O51: reset clears the latch and the record, and the state after reset has the all-mapped bus. -/
theorem resetStateMeetsTheInvariants : Obligations.ResetStateMeetsTheInvariants :=
  ⟨fun r b ins hb hins => ⟨rfl, rfl, rfl, rfl, State.resetWith_memoryCanonical hb hins,
      State.resetWith_haltRecorded r b ins⟩,
    State.resetWith_memoryCanonical reset_memory_wf rfl, State.resetWith_haltRecorded _ _ _⟩

/-! ## Register operands and fatal forms (43_operand_read.md, 44_operand_write.md, 60_exceptions.md R241, R242) -/

/-- In a ready block an unrecognised identity on the 16-bit path is fatal, with registers and bus untouched. -/
theorem exec_badRegister_encoded {i : Instr} {s : State} {p : BitVec 32} (hh : s.halted = false)
    (heffect : effect i.request s = fatalEntry .badRegister16 (encode i) s) (hp : i.request.operand.payload = p) :
    ∃ t, exec i s = .next t ∧ t.response = some (Spec.fatalResponse .badRegister16 (encode i)) ∧
      t.regs = s.regs ∧ t.bus = s.bus ∧ t.busTrace = s.busTrace ∧
      Spec.Encoded i i.request.opCode i.request.operand.kindCode p i.request.wdata :=
  ⟨_, (exec_ready hh i).trans (congrArg _ heffect), rfl, rfl, rfl, rfl, encoded_of_payload hp⟩

/-- Settles O27: the operand holds or names the value, except that an unrecognised identity is fatal. -/
theorem read16ValueKinds : Obligations.Read16ValueKinds := fun _ _ hh =>
  ⟨fun v => exec_ready_encoded hh (zero_append_eq_setWidth v), fun r => exec_ready_encoded hh (zero_append_eq_setWidth r),
    fun r => exec_ready_encoded hh (zero_append_eq_setWidth r.code),
    fun n _ => exec_badRegister_encoded hh rfl (zero_append_eq_setWidth n)⟩

/-- Settles O33: the operand names the register written, except that an unrecognised identity is fatal. -/
theorem write16Register : Obligations.Write16Register := fun _ _ _ hh =>
  ⟨fun r => exec_ready_encoded hh (zero_append_eq_setWidth r.code),
    fun n _ => exec_badRegister_encoded hh rfl (zero_append_eq_setWidth n)⟩

/-- Settles O36: the effect of a register operand of the wrong width is the response `NA`, whatever its identity. -/
theorem widthMismatchedRegistersAreNotApplicable : Obligations.WidthMismatchedRegistersAreNotApplicable := by
  intro s ovr r8 r16 b w hh
  have hdata : 0#8 ++ b = b.setWidth 16 := zero_append_eq_setWidth b
  have hhalf : 0#29 ++ r8.code = r8.code.setWidth 32 := zero_append_eq_setWidth r8.code
  have hreg : 0#28 ++ r16.code = r16.code.setWidth 32 := zero_append_eq_setWidth r16.code
  simp only [← hdata, Spec.widthMismatches, List.forall_mem_cons]
  exact ⟨exec_ready_encoded hh hreg, exec_ready_encoded hh hreg, exec_ready_encoded hh hhalf, List.forall_mem_nil _⟩

/-- Settles O37: the four forms are fatal before any access. -/
theorem registerModeHalts : Obligations.RegisterModeHalts := by
  intro s ovr b w hh
  simp only [Spec.registerModeForms, List.forall_mem_cons]
  exact ⟨exec_ready hh _, exec_ready hh _, exec_ready hh _, exec_ready hh _, List.forall_mem_nil _⟩

/-- Settles O38: the two forms are fatal, the read as well as the write. -/
theorem badRegister16Halts : Obligations.BadRegister16Halts := by
  intro s n ovr w hh _
  simp only [Spec.badRegisterForms, List.forall_mem_cons]
  exact ⟨exec_ready hh _, exec_ready hh _, List.forall_mem_nil _⟩

end Sys2Proof.Machine
